-- ==== Sys2Proof/Word.lean ====
section
/-! DEFINITION. The word types of the XQ40 model and the sparse map that every keyed store of the machine uses. -/

namespace Sys2Proof

/-- One byte as the access frame, the Lysef bus and the radio carry it (R134, R135). -/
abbrev Byte := BitVec 8

/-- A sparse store: pairs of key and value, keys strictly rising. What an unlisted key reads as is said where the store is read. -/
abbrev NMap (α : Type) := List (Nat × α)

end Sys2Proof
end

