-- ==== Sys2Proof/Syntax.lean ====
section
/-! DEFINITION. The commands and events of spec/opcode_table.json: one constructor per row, with the row's operands.
What a host, the board, the air or the flash brings into a step (frames, levels, times, samples) is an operand. -/

namespace Sys2Proof

/-- The four routes to the dictionary (R144); a Grove peer is a short id 0 to 255, or 256 for the EN 13757-4 peer of R605. -/
inductive Route where
  | spi | lysef | vicinity
  | grove (peer : Nat)
deriving DecidableEq, Repr

/-- The three port engines (Table 04.1). -/
inductive Port where
  | spi | lysef | vicinity
deriving DecidableEq, Repr

/-- The access frame of Table 05.3 without its opcode nibble: flags [3:0], tag, index, sub-index, length byte, data, CRC; `reservedOp`: the opcode nibble as it
arrived where it is one of the reserved 0x0 and 0xA to 0xF (R165), on whatever row the frame comes in; and what its port sees beside it: whether the
buffer-free acknowledgement of the port's previous frame has arrived by the end of the turnaround (R118), and on SPI the level of SCK at the nCS
falling edge that opened the transaction (R532). -/
structure Frame where
  flags : BitVec 4
  tag : Byte
  index : BitVec 16
  sub : Byte
  len : Byte
  data : List Byte
  crc : BitVec 16
  reservedOp : Option (BitVec 4)
  bufferFree : Bool
  sckHigh : Bool
deriving DecidableEq, Repr

/-- Opcodes of Table 05.4. -/
inductive Op where
  | read | write | readNext | beginSeq | commit | abort | exec | status | nop
deriving DecidableEq, Repr

/-- What raised a port reset (R120). -/
inductive ResetCause where
  | midFrame | lineBreak | fieldLoss | vioLoss | chipReset
deriving DecidableEq, Repr

/-- Store requesters in the sub order of Table 07.1. -/
inductive Requester where
  | spi | lysef | vicinity | mac | tally | repair
deriving DecidableEq, Repr

/-- Timer requesters in the sub order of Table 07.3. -/
inductive TimerReq where
  | sequencer | temperature | frequency | pulse
deriving DecidableEq, Repr

/-- Outcome of verifying a programmed word (R207, R208). -/
inductive Verify where
  | good | corrected | failed
deriving DecidableEq, Repr

/-- What the flash shows a restart beyond its committed content (R186, R219 to R222, R491): units whose margin read is unstable or whose header fails
majority, transactions whose CRC does not match, whether the newest home set fails its CRC; event numbers, snapshot identifiers and interval numbers whose
log words have a single-bit error (listed once per such word) or an uncorrectable one, and levels whose key record fails its ECC. -/
structure FlashFaults where
  unstable : List Nat := []
  badTxns : List Nat := []
  homeBad : Bool := false
  weakEvents : List Nat := []
  badEvents : List Nat := []
  weakSnaps : List Nat := []
  badSnaps : List Nat := []
  weakIntervals : List Nat := []
  badIntervals : List Nat := []
  badKeys : List Nat := []
deriving DecidableEq, Repr

/-- Rise time to 0.5 V of the two terminals of a path, ns; 2 000 000 or more: 0.5 V not reached within 2 ms (R319). -/
structure RiseTimes where
  a : Nat
  b : Nat
deriving DecidableEq, Repr

/-- Count sums of one pair's calibration and the spread of the m counts of each interval (R264, R271). -/
structure CalSums where
  s1 : Nat
  s2 : Nat
  spread1 : Nat
  spread2 : Nat
deriving DecidableEq, Repr

/-- One sample of the electricity modulators at 4000 S/s, signed 24-bit codes: the voltage, and each current channel direct and behind its ×16 preamplifier
(R390). -/
structure ElecSample where
  v : Int := 0
  a1 : Int := 0
  a16 : Int := 0
  b1 : Int := 0
  b16 : Int := 0
deriving DecidableEq, Repr

/-- A cell of a Lysef frame as a slave's line interface sees it: how long its space and its mark last, ns (R497). -/
structure LyCell where
  space : Nat
  mark : Nat
deriving DecidableEq, Repr

/-- A read cell as the Lysef master measures it on LSNS: the mean over 0.40 Tc to 0.90 Tc, and the baseline, the mean over the same window in the most recent
cell in which no slave can sink, both in µV (R514). -/
structure LsnsRead where
  base : Nat
  level : Nat
deriving DecidableEq, Repr

/-- What arrives as an ISO/IEC 15693 request on the ACCESS row (R547): an intact ACCESS, one whose ISO CRC fails, one with fewer than 8 bytes after the
manufacturer code, or a command that Table 16.3 does not list. -/
inductive IsoForm where
  | intact | badCrc | short | unsupported
deriving DecidableEq, Repr

/-- Per-cycle phasors of the tracking filter, of corrected samples in codes: V₁, I₁ of channel A and of channel B (R399). -/
structure Phasors where
  vRe : Int
  vIm : Int
  aRe : Int
  aIm : Int
  bRe : Int
  bIm : Int
deriving DecidableEq, Repr

/-- A MAC frame as received, whitening removed (Table 17.4): header fields, payload bytes and MIC; `crcOk` is the outcome of the
radio CRC of R567, `rssi` the strength it was received with, dBm (R595). -/
structure AirFrame where
  control : Byte
  groveId : BitVec 16
  dst : Byte
  src : Byte
  counter : BitVec 32
  margin : Byte
  payload : List Byte
  mic : List Byte
  crcOk : Bool
  rssi : Int
deriving DecidableEq, Repr

/-- Addressing of an ISO/IEC 15693 request: mode, UID and option flag (R547, R548). -/
inductive VicMode where
  | nonAddressed
  | addressed (uid : BitVec 64)
  | selected
deriving DecidableEq, Repr

/-- The blocks that own RWC objects and a commit object (R140). -/
inductive Block where
  | acoustic | flow | temperature | heat | elec | pulse | tariff | arbiter | radio
deriving DecidableEq, Repr

/-- The commands: one constructor per row of spec/opcode_table.json, in the table's order. The frames a Lysef slave receives are the cells of each part of the
frame, in line order, the header check's cells after those of the command byte (R497, Table 15.3); a meaning reads them as one run of cells, whatever parts
they stand in. A default of an operand only shortens how the command is written and says nothing of the hardware. -/
inductive Instr where
  | read (r : Route) (f : Frame) (late : Bool)
  | write (r : Route) (f : Frame) (late : Bool)
  | readNext (r : Route) (f : Frame) (late : Bool)
  | beginSeq (r : Route) (f : Frame)
  | commit (r : Route) (f : Frame) (late : Bool)
  | abort (r : Route) (f : Frame)
  | execObj (r : Route) (f : Frame) (late : Bool)
  | status (r : Route) (f : Frame)
  | nop (r : Route) (f : Frame)
  | lockStage (r : Route) (op : Op) (f : Frame)
  | lastCommit (r : Route) (op : Op) (f : Frame) (late : Bool)
  | objectWrite (r : Route) (index : BitVec 16) (sub : Byte) (data : List Byte)
  | shadowDiscard (r : Route) (block : Block)
  | heldResponseReady (r : Route) (tag : Nat)
  | authChallenge (r : Route)
  | authResponse (r : Route) (level : Byte) (mac : BitVec 64)
  | authLockoutEnd (r : Route)
  | authLogout (r : Route)
  | sessionIdleExpiry (r : Route)
  | levelKeyWrite (r : Route) (level : Byte) (key : BitVec 128)
  | seal (r : Route)
  | sealBreak (r : Route)
  | rawProgram (unit : Nat) (word : Nat) (value : BitVec 64)
  | portReset (p : Port) (cause : ResetCause)
  | portResetRelease (p : Port) (cellRate : Nat)
  | chipReset
  | chipResetRelease (testHigh : Bool) (faults : FlashFaults)
  | vioLoss (testHigh : Bool := false) (faults : FlashFaults := {})
  | vioRestored
  | duskSave (vbk : Bool) (samples : List ElecSample)
  | batteryInsertion (offSeconds : Nat) (faults : FlashFaults)
  | vbatValidInReadout (offSeconds : Nat)
  | startFromBusOrField (bus : Bool) (field : Bool) (vnfcMv : Nat) (faults : FlashFaults)
  | brownOut
  | batteryLow
  | gladeStop
  | busValid
  | busLoss
  | leaveTransport (r : Route)
  | enterTransport (r : Route)
  | transportWindow
  | batteryReplaced (r : Route) (mAh : BitVec 32)
  | budgetHour
  | budgetSecond (charge : Nat) (vnfc : Nat := 0)
  | vcoreCanaryTest (lowestPassing : Nat)
  | lfSourceSwitch (gap : Nat)
  | compensationTick (dieTemp : Int) (rateError : Int) (check : Int := 0)
  | lfSourceReturn (rateError : Int)
  | lfSourceReset (r : Route)
  | hfCrystalStable
  | hfStartFail
  | cclkStop
  | hfMeasurementDone (gate : Nat) (periods : Nat)
  | noonPass (rise : List RiseTimes)
  | storeRequest (q : Requester) (bytes : Nat) (change : Option (Nat × Nat)) (locked : Bool)
  | storeGrant
  | storePreempt
  | storeTransferEnd
  | arbWatchdog
  | arbLongWait (q : Requester)
  | lockExpired (r : Route)
  | arbiterFreeze (r : Route)
  | arbiterQuiesce (r : Route)
  | arbiterRun (r : Route)
  | quiesceToFreeze
  | freezeExpired
  | arbiterCommit (r : Route)
  | arbConfigApplied
  | arbiterStatsClear (r : Route)
  | journalWorkTaken
  | recordProgrammed (v : Verify)
  | erasePulseEnd (erased : Bool)
  | timerGrant (epoch : Nat)
  | tdcCalibrationEnd (epoch : Nat) (pair0 pair1 pair2 : CalSums)
  | tdcHit (coarse : Nat) (count : Nat)
  | tdcOverflow
  | timerGrantEnd (samples : List Int) (edges : Nat)
  | timerPreempt
  | finMeasurementStart
  | finNoSignal
  | tdcPairRetest (r : Route)
  | tdcSnapshotArm (r : Route) (v : Byte)
  | cycleStartTick (vbat : Nat := 0) (vbk : Nat := 0)
  | overrunCleared
  | shotLaunch
  | cycleResults (charge : Nat)
  | postponedLatchTaken
  | cycleSkipResync (path : Fin 4) (up : Bool)
  | pathShort (path : Fin 4)
  | pathFailed (path : Fin 4)
  | pathRecovered (path : Fin 4)
  | pathLowSignal (path : Fin 4)
  | templateCaptureFailed
  | acousticCommit (r : Route)
  | templateCapture (r : Route)
  | sampleCaptureArm (r : Route) (v : Byte)
  | pathCheck (r : Route) (rise : List RiseTimes)
  | flowCommit (r : Route)
  | zeroCalibrate (r : Route)
  | zeroCalibrated
  | zeroAdapting
  | reverseFlow
  | reverseCleared
  | sosMismatch
  | conversionStart
  | conversionEnd
  | standbyReleased (role : Nat)
  | sensorDisagree (role : Nat)
  | sensorRecovered (port : Fin 4)
  | portStale (port : Fin 4)
  | temperatureCommit (r : Route)
  | heatCommit (r : Route)
  | lineCycleEnd (period : Nat) (ph : Phasors) (samples : List ElecSample := [])
  | blockClose (samples : List ElecSample)
  | gainSwitch (channelB : Bool) (to16 : Bool) (samples : List ElecSample := [])
  | currentOverload (x : ElecSample := {})
  | voltageExcursionStart (uHalf : Nat)
  | voltageExcursionEnd (uHalf : Nat) (extreme : Nat) (halfCycles : Nat)
  | noLine
  | lineRestored
  | elecCommit (r : Route)
  | copReset (r : Route)
  | pulseEdgeCapture (input : Fin 4) (level : Bool)
  | pulseDebounceEnd (input : Fin 4) (level : Bool) (otherLevel : Bool)
  | pulseHoldOffEnd (input : Fin 4)
  | wireCutCheck (input : Fin 4) (level : Bool)
  | wireCutSample (input : Fin 4) (level : Bool)
  | wireCutMaskEnd (input : Fin 4) (level : Bool)
  | pulseOutEnd (output : Fin 3)
  | pulseOutSpaceEnd (output : Fin 3)
  | pulseCommit (r : Route)
  | rtcTimeSet (r : Route) (time : BitVec 64)
  | calendarSet (r : Route) (bcd : BitVec 56)
  | clockStep
  | rtcTimeAdjust (r : Route) (ms : BitVec 32)
  | slewEnd
  | localOffsetWrite (r : Route) (v : Byte)
  | offsetChanged
  | weekdayAdvance
  | weekdayWrite (r : Route) (v : Byte)
  | alarmFire (alarm : Fin 2)
  | alarmFlagsClear (r : Route) (v : Byte)
  | periodicWake (vbat : Nat) (vbk : Nat)
  | periodicWakeWrite (r : Route) (v : BitVec 32)
  | backupBytesWrite (r : Route) (data : List Byte)
  | calendarEnd
  | disciplineLost
  | latchNow (r : Route)
  | billingBoundary
  | tariffSwitchSecond
  | intervalEnd
  | tariffCommit (r : Route)
  | errorFlagsStickyClear (r : Route) (v : BitVec 32)
  | irqStatusClear (r : Route) (v : Byte)
  | marginSummaryUpdate
  | lineBreak
  | lysefIdle (partialFrame : Bool)
  | lysefAccess (addr : List LyCell) (hck : List LyCell) (op : List LyCell) (f : List LyCell) (late : Bool) (bufferFree : Bool := true)
  | searchStart (addr : List LyCell) (hck : List LyCell) (mode : List LyCell) (salt : List LyCell) (crc : List LyCell) (choices : List LyCell)
  | echo (addr : List LyCell) (hck : List LyCell) (identity : List LyCell) (crc : List LyCell)
  | assign (addr : List LyCell) (hck : List LyCell) (identity : List LyCell) (short : List LyCell) (crc : List LyCell)
  | time (addr : List LyCell) (hck : List LyCell) (stamp : List LyCell) (crc : List LyCell)
  | lysefShortAddressWrite (r : Route) (v : Byte)
  | lysefFullSearch (r : Route)
  | lysefNewSearch (r : Route)
  | lysefSearchPass (answers : List LsnsRead)
  | lysefMasterEcho (answer : List LsnsRead)
  | lysefMasterAssign (answer : List LsnsRead)
  | lysefNewPoll
  | lysefTimeBroadcast
  | lysefBreakDeferExpiry
  | lysefMasterSend (r : Route) (data : List Byte) (answer : List LsnsRead)
  | lysefDeviceLost (addr : Byte)
  | lysefBusFault (base : Nat := 0)
  | lysefFaultRetry
  | spiTailFrame
  | inventory (mode16 : Bool) (afi : Option Byte) (maskLen : Nat) (mask : BitVec 64)
  | stayQuiet (uid : BitVec 64)
  | select (uid : BitVec 64)
  | resetToReady (mode : VicMode)
  | getSystemInformation (mode : VicMode)
  | vicinityAccess (mode : VicMode) (option : Bool) (mfr : Byte) (op : Op) (f : Frame) (late : Bool) (form : IsoForm := .intact)
  | radioCommit (r : Route)
  | radioCommitApply
  | connectionEvent (peer : Nat)
  | connectionEventEnd (peer : Nat)
  | endOfTransmit
  | poll (f : AirFrame)
  | ack (f : AirFrame)
  | dataAccessRequest (f : AirFrame)
  | dataAccessResponse (f : AirFrame)
  | dataTelegram (f : AirFrame)
  | dataGroveTime (f : AirFrame)
  | dataMailbox (f : AirFrame)
  | linkLost (peer : Nat)
  | glance (rssi : Int)
  | wake (groveId : BitVec 16) (target : BitVec 32) (countdown : BitVec 16)
  | dawnWakeReceive
  | dawnTrain (peer : Nat)
  | install (identity : BitVec 64) (counter : BitVec 32) (mac : BitVec 64)
  | periodicTelegram
  | bucketChange
  | frameAged
  | lbtListenEnd (rssi : Int)
  | lbtBackoffEnd
  | pllLockFail
  | pllRestEnd
  | compatTelegram
  | compatSndUd (op : Op) (f : Frame)
  | beaconInterval
  | beacon (sender : BitVec 64) (f : AirFrame)
  | joinReq (sender : BitVec 64) (f : AirFrame)
  | joinRsp (f : AirFrame)
  | scanStart
  | scanEnd
  | stemAdmit (r : Route) (identity : BitVec 64) (key : BitVec 128) (short : Byte)
  | stemRemove (r : Route) (identity : BitVec 64)
  | groveMapUpdate (r : Route) (map : BitVec 64) (first : Byte)
  | mapUpdated
  | connUpdate (r : Route) (map : BitVec 64) (first : Byte) (instant : BitVec 16)
  | groveSend (r : Route) (data : List Byte)
  | mailboxOut (r : Route) (data : List Byte)
  | mailboxPop (r : Route)
  | transducerReplaceBegin (r : Route) (path : Byte)
  | transducerReplaceComplete (r : Route) (path : Byte) (rise : RiseTimes)
  | transducerReplaceCancel (r : Route) (path : Byte)
  | sensorReplace (r : Route) (data : List Byte)
  | lfStartTestEnd (stable : Bool)
  | vbkValid
  | finGateEnd
  | lysefMasterEnable (r : Route) (v : Byte)
  | lysefCellRateChange (r : Route) (v : BitVec 16)
  | groveSendTimeout
deriving DecidableEq, Repr

end Sys2Proof
end

