-- ==== Sys2Proof/Decode.lean ====
section
/-! DEFINITION. The words of spec/opcode_table.json: no row of the table gives any bits (the XQ40 takes frames, levels and times, not words). -/

namespace Sys2Proof

/-- No word spells a command: the table gives no row a bit. -/
def decodeTableWord (_nbits _w : Nat) : Option Instr := none

end Sys2Proof
end

