-- ==== Sys2Proof/Config.lean ====
section
/-! DEFINITION. What the manual leaves open: the free values. None has a body, so no proof can see a number behind one.
Each is named in the assumption log. -/

namespace Sys2Proof.Config

/-- A fresh value for the n-th draw: random challenge and nonce bytes, random waits, the draw of R620 (log entry 5). -/
opaque freeValue : Nat → Nat

/-- Tap i of a generated template for burst style, chip cycles, chirp cycles and chirp sweep (R302 gives no tap values; log entry 6). -/
opaque templateTap : Nat → Nat → Nat → Nat → Nat → Int

/-- Entry of the internal water speed-of-sound table at whole °C, mm/s, where R342 prints none (log entry 7). -/
opaque waterSound : Nat → Nat

/-- Entry of the internal density table at whole °C, in 0.01 kg/m³, where R371 prints none (log entry 7). -/
opaque waterDensity : Nat → Nat

/-- Entry of the internal enthalpy table at whole °C, in 0.01 kJ/kg, where R371 prints none (log entry 7). -/
opaque waterEnthalpy : Nat → Nat

/-- A voltage sample delayed by a part of a sample period, in 2⁻¹⁶ code, of the delay in 2⁻¹⁶ sample and the newest samples: R401 states no interpolation
(log entry 93). -/
opaque delayedSample : Int → List Int → Int

/-- Result of a computation whose operands have no stated result (a division by zero in the arithmetic chapters), by site and operand (log entry 8). -/
opaque freeResult : Nat → Int → Int

end Sys2Proof.Config
end

