-- ==== Sys2Proof/Machine/Bits.lean ====
section
/-! DEFINITION. Sparse maps, byte order, rounding and the two CRCs. -/

namespace Sys2Proof.Machine

/-- Look a key up. -/
def mfind {α : Type} (m : NMap α) (k : Nat) : Option α :=
  match m with
  | [] => none
  | (j, v) :: t => if j = k then some v else mfind t k

/-- Look a key up, with what an unlisted key reads as. -/
def mget {α : Type} (m : NMap α) (k : Nat) (d : α) : α := (mfind m k).getD d

/-- Set a key, keeping the keys strictly rising. -/
def mset {α : Type} (m : NMap α) (k : Nat) (v : α) : NMap α :=
  match m with
  | [] => [(k, v)]
  | (j, w) :: t => if k < j then (k, v) :: (j, w) :: t else if k = j then (k, v) :: t else (j, w) :: mset t k v

/-- Remove a key. -/
def mdel {α : Type} (m : NMap α) (k : Nat) : NMap α :=
  match m with
  | [] => []
  | (j, w) :: t => if j = k then mdel t k else (j, w) :: mdel t k

/-- Update a key through a function, from what an unlisted key reads as. -/
def mupd {α : Type} (m : NMap α) (k : Nat) (d : α) (f : α → α) : NMap α := mset m k (f (mget m k d))

/-- Are the keys strictly rising? -/
def rising {α : Type} (m : NMap α) : Bool :=
  match m with
  | [] => true
  | [_] => true
  | (j, _) :: (k, w) :: t => decide (j < k) && rising ((k, w) :: t)

/-- The n bytes of a value, most significant first (R134). -/
def bytesOf (n : Nat) (v : Nat) : List Byte :=
  match n with
  | 0 => []
  | k + 1 => BitVec.ofNat 8 (v / 256 ^ k) :: bytesOf k v

/-- The value of bytes, most significant first (R134). -/
def natOf (l : List Byte) : Nat := l.foldl (fun a b => a * 256 + b.toNat) 0

/-- Two's complement reading of an n-byte value (Table 05.1). -/
def toInt (n : Nat) (v : Nat) : Int := if v < 2 ^ (8 * n - 1) then (v : Int) else (v : Int) - 2 ^ (8 * n)

/-- Two's complement encoding in n bytes. -/
def ofInt (n : Nat) (i : Int) : Nat := (i % 2 ^ (8 * n)).toNat

/-- round(a / b), ties toward +∞ (log entry 9); a denominator of 0 has no stated result and gives a free value (log entry 8). -/
def roundDiv (a b : Int) : Int :=
  if b = 0 then Config.freeResult 0 a
  else if 0 < b then (2 * a + b) / (2 * b)
  else (-2 * a - b) / (-2 * b)

/-- Hold a value within limits. -/
def clampI (lo hi v : Int) : Int := if v < lo then lo else if hi < v then hi else v

/-- ⌈a / b⌉. -/
def ceilDiv (a b : Nat) : Nat := (a + b - 1) / b

/-- Bit i of a number. -/
def bitOf (v i : Nat) : Bool := (v / 2 ^ i) % 2 == 1

/-- Set or clear bit i of a number. -/
def putBit (v i : Nat) (b : Bool) : Nat :=
  if bitOf v i = b then v else if b then v + 2 ^ i else v - 2 ^ i

/-- One bit step of CRC-16/CCITT-FALSE (R158). -/
def crc16Bit (c : Nat) : Nat := if c / 32768 % 2 = 1 then Nat.xor (c * 2 % 65536) 0x1021 else c * 2 % 65536

/-- CRC-16/CCITT-FALSE (R158). -/
def crc16 (l : List Byte) : Nat :=
  l.foldl (fun c b =>
    let x := Nat.xor c (b.toNat * 256)
    crc16Bit (crc16Bit (crc16Bit (crc16Bit (crc16Bit (crc16Bit (crc16Bit (crc16Bit x)))))))) 0xFFFF

/-- One bit step of the reflected CRC-32 (Table 06.4). -/
def crc32Bit (c : Nat) : Nat := if c % 2 = 1 then Nat.xor (c / 2) 0xEDB88320 else c / 2

/-- CRC-32 (ISO-HDLC: 0x04C11DB7 reflected, initial and final XOR 0xFFFFFFFF; Table 06.4, R151). -/
def crc32 (l : List Byte) : Nat :=
  Nat.xor 0xFFFFFFFF (l.foldl (fun c b =>
    let x := Nat.xor c b.toNat
    crc32Bit (crc32Bit (crc32Bit (crc32Bit (crc32Bit (crc32Bit (crc32Bit (crc32Bit x)))))))) 0xFFFFFFFF)

/-- Pad a list with a value at the end up to n entries, or cut it there. -/
def padTo {α : Type} (n : Nat) (x : α) (l : List α) : List α := (l ++ List.replicate (n - l.length) x).take n

/-- A BCD byte of a number below 100. -/
def bcd (n : Nat) : Nat := n / 10 % 10 * 16 + n % 10

/-- The number of a BCD byte, when both digits are digits. -/
def unBcd (b : Nat) : Option Nat := if b / 16 ≤ 9 ∧ b % 16 ≤ 9 ∧ b < 256 then some (b / 16 * 10 + b % 16) else none

/-- ⌊√n⌋, from the high bit of the root down. -/
def isqrtFrom (n : Nat) (k r : Nat) : Nat :=
  match k with
  | 0 => r
  | j + 1 => isqrtFrom n j (if (r + 2 ^ j) * (r + 2 ^ j) ≤ n then r + 2 ^ j else r)

/-- ⌊√n⌋ for n below 2²⁵⁶. -/
def isqrt (n : Nat) : Nat := isqrtFrom n 128 0

/-- √(a / b) rounded; a denominator of 0 has no stated result (log entry 8). -/
def roundSqrt (a b : Nat) : Int := if b = 0 then Config.freeResult 25 a else ((isqrt (4 * a / b) + 1) / 2 : Nat)

end Sys2Proof.Machine
end

