-- ==== Sys2Proof/Machine/Aes.lean ====
section
/-! DEFINITION. AES-128, its CMAC and its CCM, which R144, R571, R588, R622 and Table 18.1 name. The manual names these standards and does not
repeat them; the arithmetic below is theirs (PRESUMED, log entry 10). Blocks are lists of 16 bytes as numbers. -/

namespace Sys2Proof.Machine.Aes

/-- Multiply a byte by x in GF(2⁸). -/
def xtime (a : Nat) : Nat := Nat.xor (a * 2 % 256) (a / 128 * 0x1B)

/-- The S-box, row by row: the byte of row i and column j stands j-th from the left in number i. -/
def sboxRows : List Nat := [
  0x637C777BF26B6FC53001672BFED7AB76, 0xCA82C97DFA5947F0ADD4A2AF9CA472C0,
  0xB7FD9326363FF7CC34A5E5F171D83115, 0x04C723C31896059A071280E2EB27B275,
  0x09832C1A1B6E5AA0523BD6B329E32F84, 0x53D100ED20FCB15B6ACBBE394A4C58CF,
  0xD0EFAAFB434D338545F9027F503C9FA8, 0x51A3408F929D38F5BCB6DA2110FFF3D2,
  0xCD0C13EC5F974417C4A77E3D645D1973, 0x60814FDC222A908846EEB814DE5E0BDB,
  0xE0323A0A4906245CC2D3AC629195E479, 0xE7C8376D8DD54EA96C56F4EA657AAE08,
  0xBA78252E1CA6B4C6E8DD741F4BBD8B8A, 0x703EB5664803F60E613557B986C11D9E,
  0xE1F8981169D98E949B1E87E9CE5528DF, 0x8CA1890DBFE6426841992D0FB054BB16]

/-- The S-box. -/
def sbox (a : Nat) : Nat := sboxRows.getD (a / 16) 0 / 256 ^ (15 - a % 16) % 256

/-- XOR of two blocks. -/
def bxor (a b : List Nat) : List Nat := List.zipWith Nat.xor a b

/-- The next round key. -/
def nextKey (k : List Nat) (rcon : Nat) : List Nat :=
  let t := [Nat.xor (sbox (k.getD 13 0)) rcon, sbox (k.getD 14 0), sbox (k.getD 15 0), sbox (k.getD 12 0)]
  let w0 := bxor (k.take 4) t
  let w1 := bxor ((k.drop 4).take 4) w0
  let w2 := bxor ((k.drop 8).take 4) w1
  let w3 := bxor (k.drop 12) w2
  w0 ++ w1 ++ w2 ++ w3

/-- ShiftRows on a column-major block. -/
def shiftRows (b : List Nat) : List Nat :=
  [0, 5, 10, 15, 4, 9, 14, 3, 8, 13, 2, 7, 12, 1, 6, 11].map (fun i => b.getD i 0)

/-- MixColumns on one column. -/
def mixCol (c : List Nat) : List Nat :=
  let a := c.getD 0 0
  let b := c.getD 1 0
  let d := c.getD 2 0
  let e := c.getD 3 0
  let m3 (x : Nat) := Nat.xor (xtime x) x
  [Nat.xor (xtime a) (Nat.xor (m3 b) (Nat.xor d e)), Nat.xor a (Nat.xor (xtime b) (Nat.xor (m3 d) e)),
   Nat.xor a (Nat.xor b (Nat.xor (xtime d) (m3 e))), Nat.xor (m3 a) (Nat.xor b (Nat.xor d (xtime e)))]

/-- MixColumns. -/
def mixCols (b : List Nat) : List Nat :=
  mixCol (b.take 4) ++ mixCol ((b.drop 4).take 4) ++ mixCol ((b.drop 8).take 4) ++ mixCol (b.drop 12)

/-- Rounds 1 to 9 then the last, over the remaining round constants. -/
def rounds (rcons : List Nat) (key st : List Nat) : List Nat :=
  match rcons with
  | [] => st
  | rc :: rest =>
    let k := nextKey key rc
    let t := shiftRows (st.map sbox)
    match rest with
    | [] => bxor t k
    | _ => rounds rest k (bxor (mixCols t) k)

/-- AES-128 encryption of one block. -/
def encrypt (key block : List Nat) : List Nat :=
  rounds [0x01, 0x02, 0x04, 0x08, 0x10, 0x20, 0x40, 0x80, 0x1B, 0x36] key (bxor block key)

/-- The 16 bytes of a key or block number, most significant first. -/
def block16 (v : Nat) : List Nat := (bytesOf 16 v).map BitVec.toNat

/-- The number of a list of bytes. -/
def num (l : List Nat) : Nat := l.foldl (fun a b => a * 256 + b) 0

/-- Double a block in GF(2¹²⁸) (CMAC subkeys). -/
def dbl (v : Nat) : Nat := if v < 2 ^ 127 then v * 2 else Nat.xor (v * 2 - 2 ^ 128) 0x87

/-- CBC chain over whole blocks, n at most. -/
def cbc (n : Nat) (key : List Nat) (x : List Nat) (m : List Nat) : List Nat :=
  match n with
  | 0 => x
  | k + 1 => match m with
    | [] => x
    | _ => cbc k key (encrypt key (bxor x (padTo 16 0 (m.take 16)))) (m.drop 16)

/-- AES-128 CMAC of a message, as a 128-bit number. -/
def cmac (key : Nat) (msg : List Nat) : Nat :=
  let k := block16 key
  let l := num (encrypt k (List.replicate 16 0))
  let k1 := dbl l
  let n := if msg.length = 0 then 1 else ceilDiv msg.length 16
  let head := msg.take (16 * (n - 1))
  let last := msg.drop (16 * (n - 1))
  let lastB := if last.length = 16 then bxor last (block16 k1) else bxor (padTo 16 0 (last ++ [0x80])) (block16 (dbl k1))
  num (encrypt k (bxor (cbc n k (List.replicate 16 0) head) lastB))

/-- First 8 bytes of a CMAC. -/
def cmac8 (key : Nat) (msg : List Nat) : Nat := cmac key msg / 2 ^ 64

/-- CCM counter stream: XOR data with E(A_i), i from 1 (13-byte nonce, L = 2). -/
def ctr (n : Nat) (key nonce : List Nat) (i : Nat) (m : List Nat) : List Nat :=
  match n with
  | 0 => []
  | k + 1 => match m with
    | [] => []
    | _ => bxor (m.take 16) (encrypt key ([1] ++ nonce ++ [i / 256 % 256, i % 256])) ++ ctr k key nonce (i + 1) (m.drop 16)

/-- CCM tag of 8 bytes over authenticated data (below 65 280 bytes) and message. -/
def ccmTag (key nonce aad msg : List Nat) : List Nat :=
  let flags := (if aad.length = 0 then 0 else 64) + 25
  let b0 := [flags] ++ nonce ++ [msg.length / 256 % 256, msg.length % 256]
  let a := if aad.length = 0 then [] else [aad.length / 256, aad.length % 256] ++ aad
  let padA := padTo (16 * ceilDiv a.length 16) 0 a
  let x := cbc (2 + ceilDiv a.length 16 + ceilDiv msg.length 16) key (List.replicate 16 0) (b0 ++ padA ++ msg)
  (bxor x (encrypt key ([1] ++ nonce ++ [0, 0]))).take 8

/-- CCM encryption: ciphertext and tag (R571). -/
def ccmSeal (key : Nat) (nonce aad msg : List Nat) : List Nat × List Nat :=
  let k := block16 key
  (ctr (ceilDiv msg.length 16) k nonce 1 msg, ccmTag k nonce aad msg)

/-- CCM decryption: the message when the tag matches (R571, R572). -/
def ccmOpen (key : Nat) (nonce aad cipher tag : List Nat) : Option (List Nat) :=
  let k := block16 key
  let m := ctr (ceilDiv cipher.length 16) k nonce 1 cipher
  if ccmTag k nonce aad m = tag then some m else none

end Sys2Proof.Machine.Aes
end

