-- ==== Sys2Proof/Machine/State.lean ====
section
/-! DEFINITION. The state of the XQ40 as plain data, its fault and refusal reasons, and the state after reset.

Objects of the dictionary live in `img` (active values), `shadow` (RWC shadows) and `pend` (committed, not yet applied), each a sparse
map from key (index × 256 + sub-index) to the raw unsigned value; an unlisted key of `img` reads as the object's default
(`Sys2Proof.Machine.dfltOf`). Everything the manual gives the machine beside its objects has a field of its own below. -/

namespace Sys2Proof.Machine

/-- Faults: the model has one, for a command operand that lies outside what the manual describes (R675). -/
inductive Fault where
  /-- Raised by no meaning at present: kept for a stimulus outside the specification (R675). Safe: the machine stops. -/
  | outsideSpecification
deriving DecidableEq, Repr

/-- Refusals. -/
inductive Refusal where
  /-- Raised by an arm of `exec` whose meaning is not written. Safe: nothing can be proved about it. -/
  | notModelled (mnemonic : String)
  /-- Raised by an access at L4 to the factory range 0xF000 to 0xFFFF, whose objects Table 05.7 says are not described. Safe. -/
  | factoryUndescribed
deriving DecidableEq, Repr

/-- Ordering codes (Table 00.1). -/
inductive OrderCode where
  | lq | gs | le
deriving DecidableEq, Repr

/-- Power modes (Table 03.3), with chip reset, the unpowered die and the TEST hold of R60. -/
inductive Mode where
  | off | backup | duskHold | readout | transport | full | chipReset | testHold
deriving DecidableEq, Repr

/-- LF sources (Table 04.8). -/
inductive LfSrc where
  | xtal | xl2 | rc
deriving DecidableEq, Repr

/-- Source of CCLK (Table 04.8). -/
inductive Cclk where
  | stopped | rc | xtal
deriving DecidableEq, Repr

/-- ISO/IEC 15693 states (Table 16.3). -/
inductive VicState where
  | powerOff | ready | quiet | selected
deriving DecidableEq, Repr

/-- A response of Table 05.3: status, tag, index, sub-index, data. -/
structure Resp where
  status : Nat
  tag : Nat
  index : Nat
  sub : Nat
  data : List Byte
deriving DecidableEq, Repr

/-- A session (R142 to R147): level, the one valid challenge, trimmed tick of the last frame, failed responses (level, trimmed tick), lockout. -/
structure Session where
  level : Nat
  challenge : Option (BitVec 64)
  lastTick : Nat
  fails : List (Nat × Nat)
  locked : Bool
deriving DecidableEq, Repr

/-- A staged access of a locked sequence (R172). -/
structure Staged where
  exec : Bool
  key : Nat
  data : List Byte
deriving DecidableEq, Repr

/-- An open sequence (R170): its owner, the staged accesses in order, and the LockLimit count in ticks (R237). -/
structure Seq where
  owner : Route
  staged : List Staged
  lockTicks : Nat
deriving DecidableEq, Repr

/-- A request that has been answered PENDING (R166): running, waiting for its commit word (R159), done, or held with its order of readiness. -/
inductive TagPhase where
  | running
  | awaitTxn (txn : Nat) (resp : Resp)
  | done (resp : Resp)
  | held (order : Nat) (resp : Resp)
deriving DecidableEq, Repr

/-- A tag in use (R166 to R168). -/
structure TagUse where
  route : Route
  op : Op
  f : Frame
  phase : TagPhase
deriving DecidableEq, Repr

/-- What a store transfer does at its last beat (R232): nothing, one image write, or the host access of a tag. -/
inductive Act where
  | none
  | setKey (key : Nat) (value : Nat)
  | host (slot : Nat)
deriving DecidableEq, Repr

/-- A request waiting at the store front (R226). -/
structure Waiting where
  req : Requester
  stamp : Nat
  since : Nat
  beats : Nat
  locked : Bool
  act : Act
  longLogged : Bool
deriving DecidableEq, Repr

/-- The transfer in progress at the store front. -/
structure Xfer where
  req : Requester
  beats : Nat
  locked : Bool
  act : Act
deriving DecidableEq, Repr

/-- A Grove peer's access that the radio MAC keeps at its source, without a stamp, while the front is frozen or no tag is free (R243, R248). -/
structure Sourced where
  route : Route
  op : Op
  f : Frame
  beats : Nat
  locked : Bool
deriving DecidableEq, Repr

/-- The store front and its arbiter (chapter 07). -/
structure Front where
  seq : Nat
  waiting : List Waiting
  source : List Sourced
  xfer : Option Xfer
  freezeBy : Option Route
  freezeTicks : Nat
  groveRefusal : Option Nat
deriving DecidableEq, Repr

/-- The port side (chapters 05, 15, 16): sessions by route number, tags by slot, responses last sent by route, open sequences, order of the next held response,
port resets, level keys whose record failed its ECC (R186), ISO/IEC 15693 state, VIO; and what the ports sent last: the status byte of the SPI transaction
(R534), its mode (3 or 0) and the SDO bit its nCS falling edge drives (R532), the bits SDO carried in it (R533), the bytes of the SPI tail, and the vicinity
response from its flags byte on (empty: silence) with its inventory slot. -/
structure Ports where
  sessions : NMap Session
  tags : NMap TagUse
  out : NMap Resp
  seqs : NMap Seq
  heldOrder : Nat
  inReset : NMap Bool
  keyFaults : List Nat
  vic : VicState
  vioOk : Bool
  spiStatus : Nat
  spiMode3 : Bool
  sdoFirst : Option Bool
  spiSdo : List Bool
  spiTail : List Byte
  vicOut : List Byte
  vicSlot : Nat
deriving DecidableEq, Repr

/-- Pads the XQ40 drives or reads as levels (Table 02.2) and the rise times its acoustic terminals show (R319). -/
structure Pads where
  paen : Bool
  rfsw : Bool
  lmod : Bool
  vdrv : Bool
  po : NMap Bool
  tcomLow : Bool
  rise : List RiseTimes
deriving DecidableEq, Repr

/-- Sources, modes and energy (chapter 03); `sram`: retention SRAM has kept its contents, `down`: the core is down after a loss of VBAT, `hold`: VBAT is not
valid and has stayed above the brown-out level (dusk hold, Table 03.3), `offSecs`: how long VBAT was invalid before it rose during a chip reset. -/
structure Power where
  sram : Bool
  down : Bool
  hold : Bool
  offSecs : Nat
  mode : Mode
  transportSet : Bool
  transportArmed : Bool
  vbat : Bool
  bus : Bool
  field : Bool
  vbk : Bool
  vnfc : Nat
  low : Bool
  storeOpen : Bool
  replayed : Bool
  gladeOn : Bool
  gladeLost : Bool
  leftOnce : Bool
  charger : Bool
  chargeSnap : Nat
  canaryRun : Nat
  budgetBelow : Bool
  dayCharges : List Nat
  hourCharge : Nat
  hfFailed : Bool
deriving DecidableEq, Repr

/-- Oscillators and CCLK (chapter 04): sources that passed the start test, retired ones, failures with their trimmed tick, the source under the return watch (R102)
and the one in its start test (Table 04.7). -/
structure Clk where
  lf : LfSrc
  passed : List LfSrc
  retired : List LfSrc
  fails : List (LfSrc × Nat)
  watch : Option LfSrc
  testing : Option LfSrc
  returnDay : Option Nat
  rcTrim : Int
  hfCarry : Int
  hfDie : Option Int
  hfTick : Option Nat
  hfRejected : Option Int
  hfMeasuring : Bool
  cclk : Cclk
  mclk : Bool
deriving DecidableEq, Repr

/-- One accepted time reference (chapter 13): ρ in 2⁻¹⁶ s, trimmed ticks and binary time in 2⁻⁴⁸ s. -/
structure RefSample where
  rho : Int
  m : Nat
  b : Nat
deriving DecidableEq, Repr

/-- Time of day (chapter 13): both counts in 2⁻⁴⁸ s, the slew left (2⁻⁴⁸ s), a set or step on its way to the glade domain with its cause; `refTicks`: trimmed
tick of the last accepted reference by source (1 mains, 2 Grove, 3 Lysef; R443). -/
structure Rtc where
  bin : Nat
  tk : Nat
  slew : Int
  pendSet : Option (Int × Nat)
  valid : Bool
  restored : Bool
  trimClamped : Bool
  calEnd : Bool
  disciplined : Bool
  loopApplied : Bool
  loopTick : Option Nat
  refTicks : NMap Nat
  largeTick : Option Nat
  mains : Option RefSample
  grove : Option RefSample
  lysef : Option RefSample
  mainsRho : Int
  ageCarry : Int
  wakeStart : Nat
  dayChange : Nat
deriving DecidableEq, Repr

/-- An event on its way to the log (Table 14.6): code, binary time when raised (T48F16), payload bytes. -/
structure Event where
  code : Nat
  time : Nat
  payload : List Nat
deriving DecidableEq, Repr

/-- What reading the words of a log entry meets: no error, single-bit errors in so many words with the mark that their unit's count of corrected words has
them (R218), an uncorrectable error (R491). -/
inductive Ecc where
  | good
  | weak (words : Nat) (counted : Bool)
  | bad
deriving DecidableEq, Repr

/-- A logged event: number, event, uptime when logged, the physical unit that holds it, and how its words read. -/
structure LogEntry where
  number : Nat
  ev : Event
  uptime : Nat
  unit : Nat
  ecc : Ecc
deriving DecidableEq, Repr

/-- A latch in the tally latch FIFO (Table 14.2): flags byte, daily identifier, registers by number. -/
structure Latch where
  seq : Nat
  flags : Nat
  daily : Nat
  uptime : Nat
  regs : NMap Nat
  journal : Bool
deriving DecidableEq, Repr

/-- A billing snapshot (Table 14.4), the physical unit that holds it, and how its words read. -/
structure Snapshot where
  id : Nat
  flags : Nat
  time : Nat
  uptime : Nat
  seq : Nat
  regs : NMap Nat
  unit : Nat
  ecc : Ecc
deriving DecidableEq, Repr

/-- An interval entry (Table 14.5), the physical unit that holds it, and how its words read. -/
structure Interval where
  number : Nat
  secs : Nat
  flags : Nat
  uptime : Nat
  seq : Nat
  values : List Nat
  unit : Nat
  ecc : Ecc
deriving DecidableEq, Repr

/-- Triggers merged into one latch (R462, R486): flags byte of Table 14.2, daily identifier, snapshots owed (stored identifier, flags byte of
Table 14.4) and interval ends owed (binary seconds, flags byte of Table 14.5). -/
structure Trigger where
  flags : Nat
  daily : Nat
  snaps : List (Nat × Nat)
  ivls : List (Nat × Nat)
deriving DecidableEq, Repr

/-- The tally engine and the event system (chapter 14); `heldEvents` wait for the end of a freeze (R244), `noonDates` are the local dates whose noon pass has
run, `noonHold` the date whose `NoonPassTime` passed outside full mode with the tick at which full mode began (R483). -/
structure Tally where
  fifo : List Latch
  postponed : Option Trigger
  tariffHeld : List Bool
  journalled : NMap Nat
  journalUptime : Option Nat
  sinceLatch : Nat
  snapsPending : List Snapshot
  monthly : List Snapshot
  daily : List Snapshot
  intervalsPending : List Interval
  intervals : List Interval
  intervalStart : Option Int
  intervalPeriod : Nat
  intervalPartial : Bool
  noonDates : List Nat
  noonHold : Option (Nat × Nat)
  boundaryInit : Bool
  boundaryLocal : Int
  eventQ : List Event
  heldEvents : List Event
  log : List LogEntry
  lost : Nat
  latchUptime : Nat
  latchTime : Nat
deriving DecidableEq, Repr

/-- The accumulators (R24) and the remainders the tally engine leaves in them: volumes in nL, energies in µJ, times in ticks, pulses, tariffs' last registers. -/
structure Accs where
  volFwd : Nat
  volRev : Nat
  volConv : Nat
  heat : Nat
  cool : Nat
  elecImp : NMap Nat
  elecExp : NMap Nat
  fundImp : NMap Nat
  fundExp : NMap Nat
  pulse : NMap Nat
  unmeasured : Nat
  flowErrTicks : Nat
  heatErrTicks : Nat
  noLineTicks : Nat
  outRem : NMap Nat
  outLast : NMap Nat
deriving DecidableEq, Repr

/-- Calibration of a vernier pair in the current batch (R264): sums, m, and whether it passed. -/
structure PairCal where
  s1 : Nat
  s2 : Nat
  m : Nat
  ok : Bool
deriving DecidableEq, Repr

/-- One hit result (Table 08.1). -/
structure Hit where
  valid : Bool
  ovf : Bool
  pair : Nat
  n : Nat
  coarse : Nat
  fraction : Nat
deriving DecidableEq, Repr

/-- A stamp of an LF edge (Table 04.5, Table 07.3): of the RTC-trim measurement of R100 and R105, or the first or second of an HF measurement. -/
inductive LfStamp where
  | rtcTrim
  | hfFirst
  | hfSecond
deriving DecidableEq, Repr

/-- A grant of the interval timer: requester (with the LF edge stamp it takes, if it takes one), results so far, status bits, the hit times in T/65 536 of
the last hit on each pair and of the last accepted hit, and the epoch count at its start (R275). -/
structure Grant where
  req : TimerReq
  stamp : Option LfStamp
  hits : List Hit
  close : Bool
  ovf : Bool
  lastOn : NMap Nat
  lastHit : Option Nat
  epoch : Nat
deriving DecidableEq, Repr

/-- A FIN measurement (R275): trimmed tick of its start, stamp t0, trimmed tick at which the gate passed, revoked arm grants in a row. -/
structure FinRun where
  start : Nat
  t0 : Option Nat
  gateTick : Option Nat
  revoked : Nat
deriving DecidableEq, Repr

/-- The interval timer and its arbiter (chapter 08); `owed` are the LF edge stamps not yet taken, each with the trimmed tick from which it is requested. -/
structure Tdc where
  seq : Nat
  waiting : List (TimerReq × Nat)
  grant : Option Grant
  calibrating : Bool
  batch : Bool
  calTick : Nat
  cals : NMap PairCal
  retried : Bool
  failRun : NMap Nat
  retest : NMap Nat
  arm : Option Nat
  snapshot : List Byte
  fin : Option FinRun
  owed : List (LfStamp × Nat)
  pairLost : Bool
deriving DecidableEq, Repr

/-- A judged shot: path, direction, time in T/65 536, amplitude, verdict bits as in `PathStatus` (NO_ECHO, CLIP, CYCLE_SKIP) and EDGE. -/
structure Shot where
  path : Nat
  up : Bool
  time : Int
  amp : Nat
  noEcho : Bool
  clip : Bool
  skip : Bool
  edge : Bool
deriving DecidableEq, Repr

/-- What the sequencer keeps per path: t_exp of both directions, running peak, threshold, acquisition, and the runs of R304, R307, R320 to R322. -/
structure PathLoop where
  texpUp : Int
  texpDown : Int
  peak : Nat
  threshold : Nat
  acquiring : Bool
  noEchoRun : Nat
  skipUp : Nat
  skipDown : Nat
  badRun : Nat
  goodRun : Nat
  lowRun : Nat
  lowLogged : Bool
  lastUp : Int
  lastDown : Int
deriving DecidableEq, Repr

/-- The sequencer and the acoustic front end (chapter 09). -/
structure Acou where
  running : Bool
  plan : List (Nat × Bool)
  shots : List Shot
  loops : NMap PathLoop
  heldTick : Bool
  ownTicks : Nat
  onTick : Bool
  cycleStart : Option Nat
  prevStart : Option Nat
  lastNoCycle : Option Nat
  noCycleRun : Nat
  ticks : Nat
  capture : Option Nat
  template : List Int
  captured : Bool
  sampleArm : Option Nat
  sampleNow : Option Nat
  samples : List Int
  checkPending : Bool
  singleStride : Bool
deriving DecidableEq, Repr

/-- A running zero calibration (R340): cycles left, and per path the sum of Δτ and the number of results. -/
structure ZeroCal where
  left : Nat
  sums : NMap Int
  counts : NMap Nat
deriving DecidableEq, Repr

/-- A transducer service collection (R651 to R653): cycles seen, results of p, Σ(t_up + t_down)/2 and the raw pairs' sums, and per path Σ c_p with counts. -/
structure Collect where
  started : Bool
  cycles : Nat
  results : Nat
  sumMid : Int
  sumDiff : Int
  cSums : NMap Nat
  cCounts : NMap Nat
  sosSum : Nat
  sosAll : Bool
deriving DecidableEq, Repr

/-- Flow arithmetic beside its objects (chapters 10 and 19): Q_raw and Q of the last cycle where it had them (nL/s), Δτ_meas per path of the last cycle, runs
of R341 per path, tick since which ERROR stands, the zero-loop hold, a zero calibration, the day of the last ZERO_LIMIT per path, the reverse and
no-reverse spells of R334, the run of R342, the last valid gas temperature, and a service collection. -/
structure Flow where
  qRaw : Option Int
  q : Option Int
  diffs : NMap Int
  noResRun : NMap Nat
  errSince : Option Nat
  holdSince : Option Nat
  adapting : Bool
  zeroCal : Option ZeroCal
  limitDay : NMap Nat
  revSince : Option Nat
  revClear : Option Nat
  sosRun : Nat
  lastGas : Option Int
  collect : Option Collect
deriving DecidableEq, Repr

/-- What conversions keep per port (R370, R384): tick of the last conversion, run of good conversions. -/
structure PortSt where
  lastTick : Option Nat
  goodRun : Nat
deriving DecidableEq, Repr

/-- A conversion in progress (R361): discharges still to run (0 = Z, 1 = R, 2 + x = port x), times taken by kind, restarts. -/
structure Conv where
  todo : List Nat
  times : NMap Nat
  overflow : List Nat
  restarts : Nat
deriving DecidableEq, Repr

/-- Temperature and heat beside their objects (chapter 11): the conversion in progress, the temperatures the running cycle uses by role (R382), what is
kept per port, the reference time of the last conversion, and the runs of R367 and R368 by role; `due`: a conversion waits for the running cycle's last
shot (R369); `firstDue`: none has ended since the cycles started (R387). -/
structure Temp where
  conv : Option Conv
  due : Bool
  firstDue : Bool
  inUse : NMap Int
  ports : NMap PortSt
  refPrev : Option Nat
  disagreeRun : NMap Nat
  primaryRun : NMap Nat
  standbyUsed : List Nat
  heatErrSince : Option Nat
  sensorPend : Option (List Byte)
deriving DecidableEq, Repr

/-- A voltage excursion under way (R403): start time (T48F16), its tick, and whether it is a low one. -/
structure Excursion where
  time : Nat
  tick : Nat
  low : Bool
deriving DecidableEq, Repr

/-- Sums over the open electricity block after correction (R396, R397): samples, Σv² in codes², Σi² per channel in 2⁻⁶⁴ code², Σv·i per channel in 2⁻⁴⁸ code². -/
structure BlockSums where
  m : Nat
  sumVV : Nat
  sumIIa : Nat
  sumIIb : Nat
  sumVIa : Int
  sumVIb : Int
deriving DecidableEq, Repr

/-- The electricity channel beside its objects (chapter 12): the open block with its sums, its line cycles and, per channel, Σ P₁ × T_c, Σ P₁ and Σ Q₁ in
codes², and Σ |V₁| in 2⁻¹⁶ code; the newest voltage samples (R401), the coil integrator per channel in 2⁻³² code (R392), the largest ×1 code of the running
line cycle and of the last two per channel (R390); the last cycle end and whether its frequency left the range, valid cycles in a row, a clipped sample in
the block, the tick at which the block opened, the tick up to which time without line is counted, an excursion, H₀ and W₀ of R406, and the corrector's gain and phase in force (R401). -/
structure Elec where
  blockOpen : Bool
  blockTick : Nat
  sums : BlockSums
  vPast : List Int
  coil : NMap Int
  peakNow : NMap Nat
  peaks : NMap (List Nat)
  cycles : Nat
  fund : NMap Int
  pSum : NMap Int
  qSum : NMap Int
  vAbs : Nat
  lastEnd : Option Nat
  badFreq : Bool
  validCycles : Nat
  clipped : Bool
  noLineSince : Option Nat
  excursion : Option Excursion
  heat0 : Nat
  cool0 : Nat
  imp0 : NMap Nat
  corrGain : NMap Int
  corrPhase : NMap Int
deriving DecidableEq, Repr

/-- A pulse input beside its objects (R407 to R412): an edge under debounce, hold-off, tick of the last counted pulse, runs of the wire check, mask and the
level before the check, tick of the last edge (R410). -/
structure PulseIn where
  captured : Bool
  holdOff : Bool
  lastTick : Option Nat
  cutRun : Nat
  okRun : Nat
  checking : Bool
  masked : Bool
  before : Bool
  edgeTick : Option Nat
deriving DecidableEq, Repr

/-- A pulse output beside its objects (R415, R423). -/
structure PulseOut where
  pulsing : Bool
  spacing : Bool
  since : Nat
deriving DecidableEq, Repr

/-- Pulse inputs and outputs (chapter 12), and the input whose edges the interval timer stamps (R413). -/
structure Pulse where
  ins : NMap PulseIn
  outs : NMap PulseOut
  stamping : Option Nat
deriving DecidableEq, Repr

/-- Payload of a journal record (Table 06.5), structured; `Sys2Proof.Machine.dataBytes` gives the bytes of DATA. -/
inductive Payload where
  | data (entries : List (Nat × Nat))
  | latch (l : Latch)
  | unitState (action : Nat) (logical : Nat) (phys : Nat) (count : Nat)
  | checkpoint (txn : Nat) (generation : Nat)
deriving DecidableEq, Repr

/-- A journal record: transaction number, part, FINAL, payload, and the words of it that stand in flash (Table 06.4; none before it is programmed). -/
structure Rec where
  txn : Nat
  part : Nat
  final : Bool
  payload : Payload
  words : List Nat
deriving DecidableEq, Repr

/-- The dusk record (Table 06.5 type 0x03 with the additions of R324, R416, R449, R574); `acoustic`: `RxGain` and `PathStatus` by key. -/
structure DuskRec where
  txn : Nat
  accs : Accs
  regs : NMap Nat
  latchSeq : Nat
  bin : Nat
  tk : Nat
  charge : Nat
  backup : Nat
  txCounter : Nat
  loops : NMap PathLoop
  acoustic : List (Nat × Nat)
  template : List Int
  captured : Bool
  backlog : NMap Nat
  excursion : Option Excursion
deriving DecidableEq, Repr

/-- What the journal carries beside the objects at each change: the zero-loop hold (R357), the roles on their standby port (R387). -/
structure Kept where
  holdSince : Option Nat
  adapting : Bool
  standby : List Nat
deriving DecidableEq, Repr

/-- STATE stamp of a unit (Table 06.3). -/
inductive UState where
  | free | opened | full | obsolete | retired
deriving DecidableEq, Repr

/-- One physical erase unit: logical unit it serves (none: spare), header stamps, words used after the header, records, erase intent, corrected words, half-erased mark. -/
structure Unit where
  logical : Option Nat
  count : Nat
  generation : Nat
  st : UState
  used : Nat
  recs : List Rec
  intent : Option Nat
  corrected : Nat
  half : Bool
deriving DecidableEq, Repr

/-- A home set (R198): generation, complete stamp on its first unit, CRC good, transaction covered, the image values it holds. -/
structure Home where
  generation : Nat
  complete : Bool
  crcOk : Bool
  txn : Nat
  values : NMap Nat
deriving DecidableEq, Repr

/-- Work the journal writer has in hand (R196). -/
inductive WriterWork where
  | record (r : Rec)
  | erase (phys : Nat) (pulses : Nat)
deriving DecidableEq, Repr

/-- The store beneath the image (chapter 06); `duskTime` holds both counts and `BackupBytes` of the newest dusk record (R94, R458), `duskUnit` the unit that
holds the record, `noonAcou` the acoustic state journalled at the last noon pass (R324), `heldRecs` records that wait for the end of a freeze (R244),
`breakTxn` the transaction of a `SealBreakCount` whose programming lets `SealState` change (R156), `torn` a journal unit with a partly written record (R221). -/
structure Flash where
  units : NMap Unit
  homeA : Home
  homeB : Home
  homeIsA : Bool
  nextTxn : Nat
  work : Option WriterWork
  unitRecs : List Payload
  commits : List Rec
  heldRecs : List Rec
  breakTxn : Option Nat
  checkpointDue : Bool
  erases : List Nat
  dusk : Option DuskRec
  duskUnit : Option Nat
  duskTime : Option (Nat × Nat × Nat)
  noonAcou : Option (NMap PathLoop × List Int × Bool)
  kept : Kept
  raw : NMap Nat
  rawStatus : Nat
  torn : Bool
deriving DecidableEq, Repr

/-- The Lysef slave (chapter 15): cell tracker loaded (R498) and the cell length it holds in ns, bus valid since before the last break (R506), the P and Q cells it answered 0 in the last search
frame, the last reply bytes, and an address assigned since the bus became valid (R530). -/
structure LySlave where
  tracker : Bool
  cell : Nat
  steady : Bool
  answered : List (Bool × Bool)
  reply : List Byte
  address : Option Nat
deriving DecidableEq, Repr

/-- A search the master runs (R505, R515): mode, salt, key path of the last pass, fork list (oldest first), whether a pass has been sent, devices found. -/
structure LySearch where
  newOnly : Bool
  salt : Nat
  path : Nat
  forks : List Nat
  later : Bool
  found : Nat
deriving DecidableEq, Repr

/-- The Lysef master (chapter 15): running, search, identity of the last complete pass, whether its echo matched, result bytes, sends without response by
address, lost addresses logged, bus fault, a search whose break is deferred (R525), slaves with a forwarded open sequence, the last frame sent, and what
the segment answers to a forwarded frame. -/
structure LyMaster where
  running : Bool
  search : Option LySearch
  identity : Option Nat
  matched : Bool
  result : List Byte
  noAnswer : NMap Nat
  lost : List Nat
  fault : Bool
  deferred : Option Bool
  openSlaves : List Nat
  frame : List Byte
  answer : List Byte
deriving DecidableEq, Repr

/-- A crown table entry (R617, R618, R630): identity, join key, whether the device is on Lysef, state (0 admitted, 1 connected, 2 lost), uptime of last
contact, the snapshot (receive time then telegram), tick of the last Grove time sent. -/
structure Stem where
  identity : Nat
  joinKey : Nat
  lysef : Bool
  state : Nat
  contact : Nat
  snapshot : List Byte
  timeSent : Option Nat
deriving DecidableEq, Repr

/-- Connection parameters of a pair (R576, R577): interval in 1/256 s, anchor 0 in trimmed ticks, next event, h, b, S, map, first channel, and a map change
with its instant (R629). -/
structure Conn where
  interval : Nat
  anchor0 : Int
  event : Nat
  h : Nat
  b : Nat
  s : Nat
  map : Nat
  first : Nat
  update : Option (Nat × Nat × Nat)
deriving DecidableEq, Repr

/-- A secured frame not yet acknowledged (R579, R611): its MAC frame as first sent, the queue entry it carries, sends so far. -/
structure TxFrame where
  mac : List Byte
  entry : Option Nat
  sends : Nat
deriving DecidableEq, Repr

/-- A Grove neighbour: identity, link key, transmit and receive counters and their journalled values (R573, R574), resync and floor (R575), the
unacknowledged frame (R579), power (R595), margin of the last frame received from it (none: 0x80), SCA, glance interval, tick of the last accepted frame (R580),
tick of the last authenticated frame (R582), uptime of last contact, a first fragment with its counter (R568), and the connection. -/
structure Nbr where
  identity : Nat
  key : Nat
  tx : Nat
  rx : Nat
  txSaved : Nat
  rxSaved : Nat
  resync : Bool
  floor : Nat
  out : Option TxFrame
  power : Int
  margin : Option Int
  sca : Nat
  glance : Nat
  lastTick : Nat
  heard : Nat
  contact : Nat
  frag : Option (Nat × List Byte)
  conn : Option Conn
deriving DecidableEq, Repr

/-- A queued frame (Table 17.13): number, class, peer (256: a compatibility frame), control byte, payload, tick it was queued, its own channel (beacons
and join frames), and whether it goes by dawn train. -/
structure TxEntry where
  id : Nat
  cls : Nat
  peer : Nat
  control : Nat
  payload : List Byte
  born : Nat
  chan : Option Nat
  train : Bool
deriving DecidableEq, Repr

/-- A frame on air: control byte, peer, bytes on air (whitened, R567), channel, integrated output (dBm), airtime charged (ms), WAKE frames sent before it, the queue
entry that leaves the queue with its last bit (R607), the band entry charged, and the tick at which it started. -/
structure OnAir where
  control : Nat
  peer : Nat
  bytes : List Byte
  channel : Nat
  power : Int
  airtime : Nat
  train : Nat
  entry : Option Nat
  band : Nat
  start : Nat
deriving DecidableEq, Repr

/-- A frame under the listen rule (R594): an anchor frame of a peer, or a queued entry with the channel tried and the channels tried so far; waiting: in the
random wait. -/
structure LbtJob where
  anchor : Option Nat
  entry : Nat
  channel : Nat
  tries : Nat
  waiting : Bool
deriving DecidableEq, Repr

/-- A stem's join under way (R620, R622): crown identity, grove, crown SCA, own nonce. -/
structure JoinSt where
  crown : Nat
  grove : Nat
  sca : Nat
  nonce : Nat
deriving DecidableEq, Repr

/-- Radio and grove operation beside their objects (chapters 17 and 18): frames on air, queue, next entry number, responses without a slot with their peer and tag slot (R598), inbox,
the event's peer, whether our last frame awaits its answer, MORE of our last frame, the half width of the open window in ns (R580), the channel of the event, neighbours, crown
table, airtime buckets, dwell use, run of PLL failures, rest, LBT, glance and wake state, transport window and WAKE heard in it, alarm tick, epoch, channel of the
last beacon while it has had no answer (R621), join, grove joined, scan, the tick before which no scan starts and the next backoff (R634), GroveSend, map change,
compatibility state; `dawn`: the event is the reception after a dawn train, and no frame has come yet (R608); `synth`: the synthesizer's correction, −`HfCorrection`
at its last start, in units of `HfCorrection` (R106). -/
structure Radio where
  air : List OnAir
  txq : List TxEntry
  nextId : Nat
  heldResp : List (Nat × Option Nat × List Byte)
  inbox : List (List Byte)
  event : Option Nat
  await : Bool
  more : Bool
  openNs : Nat
  evChan : Nat
  nbrs : NMap Nbr
  stems : NMap Stem
  buckets : NMap Nat
  bucket : Nat
  dwell : List (Nat × Nat × Nat)
  lastLog : NMap Nat
  pllFails : Nat
  lbt : Option LbtJob
  glancing : Bool
  falseWakes : List Nat
  wakeWait : Bool
  window : Bool
  installReady : Bool
  alarmTick : Option Nat
  epoch : Nat
  beaconOpen : Option Nat
  join : Option JoinSt
  grove : Nat
  scan : Option Nat
  scanIx : Nat
  scanAfter : Nat
  backoff : Nat
  send : Option Nat
  result : List Byte
  mapChange : Option (Nat × Nat)
  compatWindow : Bool
  compatCounter : Nat
  compatSaved : Nat
  dawn : Bool
  synth : Int
deriving DecidableEq, Repr

/-- The machine. -/
structure State where
  code : OrderCode
  img : NMap Nat
  shadow : NMap Nat
  pend : NMap Nat
  pendBlocks : List Block
  pw : Power
  clk : Clk
  rtc : Rtc
  ports : Ports
  pads : Pads
  front : Front
  flash : Flash
  tally : Tally
  accs : Accs
  tdc : Tdc
  acou : Acou
  flow : Flow
  temp : Temp
  elec : Elec
  pulse : Pulse
  ly : LySlave
  lm : LyMaster
  radio : Radio
  free : Nat
  pending : List Instr
deriving DecidableEq, Repr

/-- Empty accumulators. -/
def Accs.zero : Accs :=
  ⟨0, 0, 0, 0, 0, [], [], [], [], [], 0, 0, 0, 0, [], []⟩

/-- An empty home set. -/
def Home.empty : Home := ⟨0, false, true, 0, []⟩

/-- The machine right after reset: a part as shipped (transport mode, defaults of every object table), VBAT valid, its restart of Table 03.8 done to
step 5, so the store arbiter is open and `PowerMode` reads 2. Ordering code LE is the model's choice (log entry 1). -/
def State.reset : State where
  code := .le
  img := []
  shadow := []
  pend := []
  pendBlocks := []
  pw := { sram := true, down := false, hold := false, offSecs := 0, mode := .transport, transportSet := true, transportArmed := false, vbat := true, bus := false, field := false, vbk := false, vnfc := 0,
          low := false, storeOpen := true, replayed := true, gladeOn := true, gladeLost := false, leftOnce := false, charger := false,
          chargeSnap := 0, canaryRun := 0, budgetBelow := false, dayCharges := [], hourCharge := 0, hfFailed := false }
  clk := { lf := .rc, passed := [.rc], retired := [], fails := [], watch := none, testing := some .xtal, returnDay := none, rcTrim := 0, hfCarry := 0, hfDie := none,
           hfTick := none, hfRejected := none, hfMeasuring := false, cclk := .rc, mclk := false }
  rtc := { bin := 0, tk := 0, slew := 0, pendSet := none, valid := false, restored := false, trimClamped := false, calEnd := false,
           disciplined := false, loopApplied := false, loopTick := none, refTicks := [], largeTick := none, mains := none, grove := none,
           lysef := none, mainsRho := 0, ageCarry := 0, wakeStart := 0, dayChange := 0 }
  ports := { sessions := [], tags := [], out := [], seqs := [], heldOrder := 0, inReset := [(1, true), (2, true), (3, true)],
             keyFaults := [], vic := .powerOff, vioOk := true, spiStatus := 0x50, spiMode3 := false, sdoFirst := none, spiSdo := [], spiTail := [], vicOut := [], vicSlot := 0 }
  pads := { paen := false, rfsw := false, lmod := false, vdrv := false, po := [], tcomLow := false,
            rise := [⟨50000, 50000⟩, ⟨50000, 50000⟩, ⟨50000, 50000⟩, ⟨50000, 50000⟩] }
  front := { seq := 0, waiting := [], source := [], xfer := none, freezeBy := none, freezeTicks := 0, groveRefusal := none }
  flash := { units := [], homeA := .empty, homeB := .empty, homeIsA := true, nextTxn := 1, work := none, unitRecs := [], commits := [], heldRecs := [], breakTxn := none,
             checkpointDue := false, erases := [], dusk := none, duskUnit := none, duskTime := none, noonAcou := none, kept := ⟨none, false, []⟩, raw := [], rawStatus := 0, torn := false }
  tally := { fifo := [], postponed := none, tariffHeld := [true, false, false, false], journalled := [], journalUptime := none,
             sinceLatch := 0, snapsPending := [], monthly := [], daily := [], intervalsPending := [], intervals := [], intervalStart := none, intervalPeriod := 60,
             intervalPartial := false, noonDates := [], noonHold := none, boundaryInit := false, boundaryLocal := 0, eventQ := [], heldEvents := [], log := [], lost := 0, latchUptime := 0, latchTime := 0 }
  accs := .zero
  tdc := { seq := 0, waiting := [], grant := none, calibrating := false, batch := false, calTick := 0, cals := [], retried := false,
           failRun := [], retest := [], arm := none, snapshot := [], fin := none, owed := [], pairLost := false }
  acou := { running := false, plan := [], shots := [], loops := [], heldTick := false, ownTicks := 0, onTick := true, cycleStart := none,
            prevStart := none, lastNoCycle := none, noCycleRun := 0, ticks := 0, capture := none, template := [], captured := false,
            sampleArm := none, sampleNow := none, samples := [], checkPending := false, singleStride := false }
  flow := { qRaw := none, q := none, diffs := [], noResRun := [], errSince := none, holdSince := none, adapting := false, zeroCal := none,
            limitDay := [], revSince := none, revClear := none, sosRun := 0, lastGas := none, collect := none }
  temp := { conv := none, due := false, firstDue := false, inUse := [], ports := [], refPrev := none, disagreeRun := [], primaryRun := [], standbyUsed := [],
            heatErrSince := none, sensorPend := none }
  elec := { blockOpen := false, blockTick := 0, sums := ⟨0, 0, 0, 0, 0, 0⟩, vPast := [], coil := [], peakNow := [], peaks := [], cycles := 0, fund := [], pSum := [], qSum := [], vAbs := 0, lastEnd := none, badFreq := false, validCycles := 0,
            clipped := false, noLineSince := none, excursion := none, heat0 := 0, cool0 := 0, imp0 := [], corrGain := [], corrPhase := [] }
  pulse := { ins := [], outs := [], stamping := none }
  ly := { tracker := false, cell := 0, steady := false, answered := [], reply := [], address := none }
  lm := { running := false, search := none, identity := none, matched := false, result := [], noAnswer := [], lost := [], fault := false,
          deferred := none, openSlaves := [], frame := [], answer := [] }
  radio := { air := [], txq := [], nextId := 0, heldResp := [], inbox := [], event := none, await := false, more := false, openNs := 0, evChan := 0, nbrs := [],
             stems := [], buckets := [], bucket := 0, dwell := [], lastLog := [], pllFails := 0, lbt := none, glancing := false, falseWakes := [],
             wakeWait := false, window := false, installReady := false, alarmTick := none, epoch := 0, beaconOpen := none, join := none,
             grove := 0xFFFF, scan := none, scanIx := 0, scanAfter := 0, dawn := false, synth := 0, backoff := 60, send := none, result := [], mapChange := none, compatWindow := false,
             compatCounter := 0, compatSaved := 0 }
  free := 0
  pending := []

end Sys2Proof.Machine
end

