-- ==== Sys2Proof/Machine/Dictionary.lean ====
section
/-! DEFINITION. The object dictionary: one row per object of the tables "Objects" of chapters 00 to 19, with its size, access kind, mark M, level,
range, owning RWC block, the fused block it needs, and its default (R132 to R139). -/

namespace Sys2Proof.Machine

/-- Access kinds (Table 05.2). -/
inductive Kind where
  | r | w | rw | rwc | x
deriving DecidableEq, Repr

/-- The range an object table gives a written value (R137). -/
inductive Rng where
  | any
  | between (lo hi : Int)
  | step (lo hi st : Int)
  | oneOf (l : List Int)
  | orZero (lo hi : Int)
  | divides (n : Int)
  | bits (n : Nat)
deriving DecidableEq, Repr

/-- The fused option or ordering code an object needs (Tables 00.1, 00.2; "GS only", "Liquid codes only" of Table 10.3). -/
inductive Avail where
  | all | heat | elec | gas | liquid
deriving DecidableEq, Repr

/-- A dictionary row: index, first and last sub-index, size in bytes, signed, kind, mark M, level, range, RWC block, availability, default per sub-index
(the last one repeats), default on XQ40-GS where it differs. -/
structure ObjDef where
  index : Nat
  lo : Nat
  hi : Nat
  size : Nat
  signed : Bool
  kind : Kind
  m : Bool
  level : Nat
  rng : Rng
  block : Option Block
  avail : Avail
  dflt : List Nat
  gs : List Nat
deriving DecidableEq, Repr

def dictRows0 : List ObjDef := [
  ⟨0x1000, 0, 0, 8, false, .r, false, 0, .any, none, .all, [1], []⟩,
  ⟨0x1001, 0, 0, 8, false, .r, false, 0, .any, none, .all, [0], []⟩,
  ⟨0x1002, 0, 0, 4, false, .r, false, 0, .any, none, .all, [0], []⟩,
  ⟨0x1003, 0, 0, 1, false, .r, false, 0, .any, none, .all, [66], []⟩,
  ⟨0x1004, 0, 0, 2, false, .r, false, 0, .any, none, .all, [2], []⟩,
  ⟨0x1008, 0, 0, 1, false, .r, false, 0, .any, none, .all, [0], []⟩,
  ⟨0x1010, 0, 0, 1, false, .r, false, 0, .any, none, .all, [8], []⟩,
  ⟨0x1100, 0, 0, 1, false, .r, false, 0, .any, none, .all, [0], []⟩,
  ⟨0x1101, 0, 0, 1, false, .r, false, 0, .any, none, .all, [0], []⟩,
  ⟨0x1102, 0, 0, 2, false, .r, false, 0, .any, none, .all, [0], []⟩,
  ⟨0x1103, 0, 0, 2, false, .rw, false, 3, .step 1950 2400 50, none, .all, [2050], []⟩,
  ⟨0x1104, 0, 0, 2, false, .rw, false, 3, .step 2100 2600 50, none, .all, [2200], []⟩,
  ⟨0x1105, 0, 0, 4, false, .r, false, 0, .any, none, .all, [0], []⟩,
  ⟨0x1106, 0, 0, 8, false, .r, false, 0, .any, none, .all, [0], []⟩,
  ⟨0x1108, 0, 0, 2, false, .r, false, 0, .any, none, .all, [0], []⟩,
  ⟨0x1109, 0, 0, 1, false, .rw, false, 3, .between 10 100, none, .all, [22], []⟩,
  ⟨0x110A, 0, 0, 2, false, .r, false, 0, .any, none, .all, [2129], []⟩,
  ⟨0x1110, 0, 0, 1, false, .rw, false, 3, .between 0 4, none, .all, [0], []⟩,
  ⟨0x1111, 0, 0, 1, false, .rw, false, 3, .between 0 4, none, .all, [2], []⟩,
  ⟨0x1118, 0, 0, 2, false, .r, false, 0, .any, none, .all, [0], []⟩,
  ⟨0x1120, 0, 0, 1, false, .x, false, 2, .oneOf [1], none, .all, [0], []⟩,
  ⟨0x1121, 0, 0, 1, false, .x, false, 4, .oneOf [1], none, .all, [0], []⟩,
  ⟨0x1130, 0, 0, 8, false, .r, false, 0, .any, none, .all, [0], []⟩,
  ⟨0x1131, 0, 0, 8, false, .r, false, 0, .any, none, .all, [0], []⟩,
  ⟨0x1132, 0, 0, 4, false, .rw, false, 3, .any, none, .all, [2400], []⟩,
  ⟨0x1133, 0, 0, 2, false, .rw, false, 3, .between 100 1000, none, .all, [650], []⟩,
  ⟨0x1134, 0, 0, 2, false, .rw, false, 3, .any, none, .all, [5844], []⟩,
  ⟨0x1135, 0, 0, 8, false, .r, false, 0, .any, none, .all, [0], []⟩,
  ⟨0x1136, 0, 0, 4, false, .r, false, 0, .any, none, .all, [0], []⟩,
  ⟨0x1137, 0, 0, 4, true, .r, false, 0, .any, none, .all, [0], []⟩,
  ⟨0x1138, 0, 0, 4, false, .rw, false, 3, .any, none, .all, [10000000], []⟩,
  ⟨0x1139, 0, 0, 4, false, .x, false, 3, .between 100 20000, none, .all, [0], []⟩]

def dictRows1 : List ObjDef := [
  ⟨0x113A, 0, 0, 4, false, .r, false, 0, .any, none, .all, [0], []⟩,
  ⟨0x1140, 0, 0, 2, false, .r, false, 0, .any, none, .all, [900], []⟩,
  ⟨0x1141, 0, 0, 2, false, .r, false, 0, .any, none, .all, [0], []⟩,
  ⟨0x1142, 0, 0, 1, false, .r, false, 0, .between 0 1, none, .all, [0], []⟩,
  ⟨0x1200, 0, 0, 1, false, .r, false, 0, .any, none, .all, [0], []⟩,
  ⟨0x1201, 0, 0, 1, false, .r, false, 0, .any, none, .all, [0], []⟩,
  ⟨0x1202, 0, 0, 1, false, .r, false, 0, .any, none, .all, [0], []⟩,
  ⟨0x1203, 0, 0, 1, false, .rw, true, 3, .between 0 1, none, .all, [0], []⟩,
  ⟨0x1204, 0, 0, 1, false, .rw, true, 3, .between 0 3, none, .all, [2], []⟩,
  ⟨0x1205, 0, 0, 2, true, .rw, true, 3, .any, none, .all, [2500], []⟩,
  ⟨0x1206, 0, 0, 2, true, .rw, true, 3, .any, none, .all, [65196], []⟩,
  ⟨0x1207, 0, 0, 2, true, .r, false, 0, .any, none, .all, [2500], []⟩,
  ⟨0x1208, 0, 0, 2, true, .r, false, 0, .any, none, .all, [65196], []⟩,
  ⟨0x1209, 0, 0, 4, true, .r, false, 0, .any, none, .all, [0], []⟩,
  ⟨0x120A, 0, 0, 2, true, .r, false, 0, .any, none, .all, [0], []⟩,
  ⟨0x120B, 0, 0, 1, false, .x, false, 3, .oneOf [1], none, .all, [0], []⟩,
  ⟨0x120C, 0, 0, 2, false, .rw, false, 3, .between 50 2000, none, .all, [200], []⟩,
  ⟨0x120D, 0, 0, 4, true, .r, false, 0, .any, none, .all, [0], []⟩,
  ⟨0x120E, 1, 3, 1, false, .r, false, 0, .any, none, .all, [0], []⟩,
  ⟨0x1210, 0, 0, 4, true, .r, false, 0, .any, none, .all, [0], []⟩,
  ⟨0x1211, 0, 0, 2, true, .rw, true, 3, .between (-500) 500, none, .all, [0], []⟩,
  ⟨0x1212, 0, 0, 1, false, .rw, false, 3, .between 0 1, none, .all, [1], []⟩,
  ⟨0x1213, 0, 0, 2, false, .rw, false, 3, .between 10 5000, none, .all, [500], []⟩,
  ⟨0x1214, 0, 0, 8, false, .r, false, 0, .any, none, .all, [0], []⟩,
  ⟨0x1215, 0, 0, 4, true, .r, false, 0, .any, none, .all, [0], []⟩,
  ⟨0x1216, 0, 0, 1, false, .rw, true, 3, .between 0 1, none, .all, [1], []⟩,
  ⟨0x1217, 0, 0, 4, false, .r, false, 0, .any, none, .all, [0], []⟩,
  ⟨0x1220, 0, 0, 1, false, .r, false, 0, .any, none, .all, [0], []⟩,
  ⟨0x1221, 0, 0, 8, false, .r, false, 0, .any, none, .all, [0], []⟩,
  ⟨0x1230, 1, 3, 4, false, .r, false, 0, .any, none, .all, [0], []⟩,
  ⟨0x1018, 0, 0, 8, false, .r, false, 0, .any, none, .all, [0], []⟩,
  ⟨0x1019, 0, 0, 9, false, .w, false, 0, .any, none, .all, [0], []⟩]

def dictRows2 : List ObjDef := [
  ⟨0x101A, 0, 0, 1, false, .r, false, 0, .any, none, .all, [0], []⟩,
  ⟨0x101B, 0, 0, 1, false, .x, false, 0, .oneOf [1], none, .all, [0], []⟩,
  ⟨0x101C, 0, 0, 2, false, .rw, false, 3, .between 10 3600, none, .all, [60], []⟩,
  ⟨0x101D, 0, 0, 2, false, .rw, false, 3, .between 60 3600, none, .all, [300], []⟩,
  ⟨0x101E, 1, 3, 16, false, .w, false, 3, .any, none, .all, [0], []⟩,
  ⟨0x101E, 4, 4, 16, false, .w, false, 4, .any, none, .all, [0], []⟩,
  ⟨0x101F, 1, 4, 4, false, .r, false, 0, .any, none, .all, [0], []⟩,
  ⟨0x1020, 0, 0, 1, false, .r, false, 0, .any, none, .all, [0], []⟩,
  ⟨0x1021, 0, 0, 1, false, .x, false, 3, .oneOf [1], none, .all, [0], []⟩,
  ⟨0x1022, 0, 0, 1, false, .x, false, 4, .oneOf [1], none, .all, [0], []⟩,
  ⟨0x1023, 0, 0, 4, false, .r, false, 0, .any, none, .all, [0], []⟩,
  ⟨0x1024, 0, 0, 8, false, .r, false, 0, .any, none, .all, [0], []⟩,
  ⟨0x1025, 0, 0, 4, false, .r, false, 0, .any, none, .all, [0], []⟩,
  ⟨0x4000, 0, 0, 1, false, .r, false, 0, .any, none, .all, [0], []⟩,
  ⟨0x4001, 0, 0, 4, false, .r, false, 0, .any, none, .all, [0], []⟩,
  ⟨0x4002, 0, 0, 1, false, .r, false, 0, .any, none, .all, [12], []⟩,
  ⟨0x4003, 0, 0, 1, false, .r, false, 0, .any, none, .all, [0], []⟩,
  ⟨0x4004, 0, 0, 4, false, .r, false, 0, .any, none, .all, [0], []⟩,
  ⟨0x4005, 0, 0, 4, false, .r, false, 0, .any, none, .all, [0], []⟩,
  ⟨0x4006, 0, 0, 1, false, .r, false, 0, .any, none, .all, [0], []⟩,
  ⟨0x4007, 0, 0, 4, false, .r, false, 0, .any, none, .all, [0], []⟩,
  ⟨0x4008, 0, 0, 4, false, .r, false, 0, .any, none, .all, [0], []⟩,
  ⟨0x4009, 0, 0, 4, false, .r, false, 0, .any, none, .all, [0], []⟩,
  ⟨0x400A, 0, 0, 1, false, .r, false, 0, .any, none, .all, [0], []⟩,
  ⟨0x400B, 0, 0, 4, false, .r, false, 0, .any, none, .all, [0], []⟩,
  ⟨0x400C, 0, 0, 2, false, .r, false, 0, .any, none, .all, [0], []⟩,
  ⟨0x400D, 0, 0, 4, false, .r, false, 0, .any, none, .all, [0], []⟩,
  ⟨0x4010, 0, 0, 1, false, .rw, false, 3, .between 1 32, none, .all, [4], []⟩,
  ⟨0x4011, 0, 0, 4, false, .rw, false, 3, .between 500 20000, none, .all, [2000], []⟩,
  ⟨0x4030, 1, 204, 4, false, .r, false, 0, .any, none, .all, [0], []⟩,
  ⟨0x4100, 0, 0, 1, false, .rw, false, 3, .between 0 2, none, .all, [0], []⟩,
  ⟨0x4101, 1, 6, 1, false, .rwc, false, 3, .between 0 1, some .arbiter, .all, [0, 0, 0, 0, 1, 0], []⟩]

def dictRows3 : List ObjDef := [
  ⟨0x4102, 1, 4, 1, false, .rwc, false, 3, .between 1 4, some .arbiter, .all, [4, 4, 4, 4], []⟩,
  ⟨0x4102, 5, 5, 1, false, .rwc, false, 3, .between 2 6, some .arbiter, .all, [4], []⟩,
  ⟨0x4102, 6, 6, 1, false, .rwc, false, 3, .between 1 3, some .arbiter, .all, [2], []⟩,
  ⟨0x4103, 0, 0, 1, false, .x, false, 3, .oneOf [1, 2], none, .all, [0], []⟩,
  ⟨0x4104, 0, 0, 2, false, .rw, false, 3, .between 10 2000, none, .all, [200], []⟩,
  ⟨0x4105, 0, 0, 2, false, .rw, false, 3, .between 100 10000, none, .all, [1000], []⟩,
  ⟨0x4110, 1, 6, 1, false, .r, false, 0, .any, none, .all, [0], []⟩,
  ⟨0x4111, 0, 0, 1, false, .r, false, 0, .any, none, .all, [13], []⟩,
  ⟨0x4112, 1, 6, 4, false, .r, false, 0, .any, none, .all, [0], []⟩,
  ⟨0x4113, 1, 6, 4, false, .r, false, 0, .any, none, .all, [0], []⟩,
  ⟨0x4114, 1, 6, 4, false, .r, false, 0, .any, none, .all, [0], []⟩,
  ⟨0x4115, 0, 0, 2, false, .rw, false, 3, .between 10 60000, none, .all, [1000], []⟩,
  ⟨0x4116, 0, 0, 4, false, .r, false, 0, .any, none, .all, [0], []⟩,
  ⟨0x4117, 1, 4, 1, false, .r, false, 0, .between 0 1, none, .all, [0], []⟩,
  ⟨0x4120, 1, 4, 4, false, .r, false, 0, .any, none, .all, [0], []⟩,
  ⟨0x4130, 0, 0, 1, false, .x, false, 3, .oneOf [1], none, .all, [0], []⟩,
  ⟨0x2000, 1, 3, 1, false, .r, false, 0, .any, none, .all, [0, 0, 1], []⟩,
  ⟨0x2001, 0, 0, 1, false, .r, false, 0, .any, none, .all, [1], []⟩,
  ⟨0x2002, 0, 0, 1, false, .r, false, 0, .any, none, .all, [0], []⟩,
  ⟨0x2003, 0, 0, 1, false, .rw, true, 3, .oneOf [1, 2, 4, 8], none, .all, [4], []⟩,
  ⟨0x2004, 1, 3, 2, false, .r, false, 0, .any, none, .all, [0], []⟩,
  ⟨0x2005, 1, 3, 4, false, .r, false, 0, .any, none, .all, [0], []⟩,
  ⟨0x2006, 0, 0, 1, false, .x, false, 3, .oneOf [1], none, .all, [0], []⟩,
  ⟨0x2008, 0, 0, 4, false, .r, false, 0, .any, none, .all, [0], []⟩,
  ⟨0x2009, 0, 0, 4, false, .r, false, 0, .any, none, .all, [0], []⟩,
  ⟨0x2010, 0, 0, 1, false, .rw, false, 3, .between 0 1, none, .all, [0], []⟩,
  ⟨0x2011, 0, 0, 1, false, .rw, false, 3, .between 0 3, none, .all, [0], []⟩,
  ⟨0x2012, 0, 0, 1, false, .rw, false, 3, .step 10 100 5, none, .all, [20], []⟩,
  ⟨0x2013, 0, 0, 1, false, .rw, false, 3, .any, none, .all, [0], []⟩,
  ⟨0x2014, 0, 0, 1, false, .rw, false, 3, .between 1 32, none, .all, [10], []⟩,
  ⟨0x2015, 0, 0, 2, false, .rw, false, 3, .between 1 65535, none, .all, [60], []⟩,
  ⟨0x2016, 0, 0, 8, true, .r, false, 0, .any, none, .all, [0], []⟩]

def dictRows4 : List ObjDef := [
  ⟨0x2017, 0, 0, 8, false, .r, false, 0, .any, none, .all, [0], []⟩,
  ⟨0x2018, 0, 0, 1, false, .r, false, 0, .any, none, .all, [4], []⟩,
  ⟨0x2040, 0, 0, 1, false, .x, false, 2, .between 1 4, none, .all, [0], []⟩,
  ⟨0x2041, 0, 0, 80, false, .r, false, 0, .any, none, .all, [0], []⟩,
  ⟨0x2100, 1, 4, 1, false, .rwc, true, 3, .between 0 1, some .acoustic, .all, [1, 1, 1, 1], []⟩,
  ⟨0x2101, 0, 0, 2, false, .rwc, true, 3, .between 32 65535, some .acoustic, .all, [256], []⟩,
  ⟨0x2102, 0, 0, 1, false, .rwc, true, 3, .between 0 3, some .acoustic, .all, [2], [3]⟩,
  ⟨0x2103, 0, 0, 4, false, .rwc, true, 3, .any, some .acoustic, .all, [1000000], [200000]⟩,
  ⟨0x2104, 0, 0, 1, false, .rwc, true, 3, .between 1 63, some .acoustic, .all, [8], []⟩,
  ⟨0x2105, 0, 0, 1, false, .rwc, true, 3, .between 1 4, some .acoustic, .all, [1], []⟩,
  ⟨0x2106, 0, 0, 1, false, .rwc, true, 3, .between 8 64, some .acoustic, .all, [32], []⟩,
  ⟨0x2107, 0, 0, 1, false, .rwc, true, 3, .between 10 40, some .acoustic, .all, [20], []⟩,
  ⟨0x2108, 0, 0, 1, false, .rwc, true, 3, .between 0 3, some .acoustic, .all, [1], []⟩,
  ⟨0x2109, 0, 0, 2, false, .rw, true, 3, .between 10 5000, none, .all, [30], []⟩,
  ⟨0x210B, 0, 0, 1, false, .rwc, true, 3, .between 1 8, some .acoustic, .all, [8], []⟩,
  ⟨0x210C, 0, 0, 1, false, .rwc, true, 3, .between 0 15, some .acoustic, .all, [2], []⟩,
  ⟨0x210D, 0, 0, 1, false, .rw, true, 3, .between 26 230, none, .all, [90], []⟩,
  ⟨0x210E, 0, 0, 2, false, .rw, true, 3, .between 64 480, none, .all, [320], []⟩,
  ⟨0x210F, 0, 0, 1, false, .rw, true, 3, .between 0 1, none, .all, [1], []⟩,
  ⟨0x2110, 1, 4, 2, false, .rw, true, 3, .between 0 264, none, .all, [160], []⟩,
  ⟨0x2111, 0, 0, 1, false, .rwc, true, 3, .between 0 1, some .acoustic, .all, [0], []⟩,
  ⟨0x2112, 0, 0, 1, false, .x, true, 3, .oneOf [1], none, .all, [0], []⟩,
  ⟨0x2113, 0, 0, 256, false, .r, false, 0, .any, none, .all, [0], []⟩,
  ⟨0x2114, 0, 0, 1, false, .x, false, 3, .oneOf [1, 2], none, .all, [0], []⟩,
  ⟨0x2115, 0, 0, 1, false, .rw, true, 3, .step 10 100 5, none, .all, [15], []⟩,
  ⟨0x2116, 0, 0, 1, false, .rw, true, 3, .between 1 255, none, .all, [16], []⟩,
  ⟨0x2117, 0, 0, 4, false, .r, false, 0, .any, none, .all, [1000000], [200000]⟩,
  ⟨0x2118, 1, 4, 4, false, .rw, true, 3, .any, none, .all, [100000], []⟩,
  ⟨0x2119, 0, 0, 1, false, .rw, true, 3, .between 8 128, none, .all, [64], []⟩,
  ⟨0x211A, 0, 0, 2, false, .rw, true, 3, .between 20 5000, none, .all, [100], []⟩,
  ⟨0x211B, 0, 0, 2, false, .rw, true, 3, .between 8 256, none, .all, [40], []⟩,
  ⟨0x211C, 0, 0, 1, false, .r, false, 0, .any, none, .all, [0], []⟩]

def dictRows5 : List ObjDef := [
  ⟨0x2120, 1, 4, 8, false, .r, false, 0, .any, none, .all, [0], []⟩,
  ⟨0x2121, 1, 4, 8, false, .r, false, 0, .any, none, .all, [0], []⟩,
  ⟨0x2122, 1, 4, 2, false, .r, false, 0, .any, none, .all, [0], []⟩,
  ⟨0x2123, 1, 4, 1, false, .r, false, 0, .any, none, .all, [0], []⟩,
  ⟨0x2124, 0, 0, 1, false, .r, false, 0, .any, none, .all, [0], []⟩,
  ⟨0x2125, 0, 0, 4, false, .r, false, 0, .any, none, .all, [0], []⟩,
  ⟨0x2126, 0, 0, 4, false, .r, false, 0, .any, none, .all, [0], []⟩,
  ⟨0x2127, 0, 0, 4, false, .r, false, 0, .any, none, .all, [0], []⟩,
  ⟨0x2128, 1, 4, 4, false, .r, false, 0, .any, none, .all, [0], []⟩,
  ⟨0x2129, 1, 4, 2, false, .r, false, 0, .any, none, .all, [0], []⟩,
  ⟨0x212A, 0, 0, 4, false, .r, false, 0, .any, none, .all, [0], []⟩,
  ⟨0x2130, 0, 0, 1, false, .x, false, 2, .between 1 8, none, .all, [0], []⟩,
  ⟨0x2131, 0, 0, 1, false, .x, false, 2, .oneOf [1], none, .all, [0], []⟩,
  ⟨0x2132, 0, 0, 1, false, .r, false, 0, .any, none, .all, [4], []⟩,
  ⟨0x2133, 0, 0, 2048, false, .r, false, 0, .any, none, .all, [0], []⟩,
  ⟨0x2200, 1, 4, 4, false, .rwc, true, 3, .any, some .flow, .all, [0], []⟩,
  ⟨0x2201, 1, 4, 4, false, .rwc, true, 3, .any, some .flow, .all, [0], []⟩,
  ⟨0x2202, 1, 4, 4, false, .rwc, true, 3, .any, some .flow, .all, [0], []⟩,
  ⟨0x2203, 1, 4, 4, false, .r, false, 0, .any, none, .all, [0], []⟩,
  ⟨0x2204, 1, 4, 4, true, .r, false, 0, .any, none, .all, [0], []⟩,
  ⟨0x2205, 1, 4, 4, true, .r, false, 0, .any, none, .all, [0], []⟩,
  ⟨0x2206, 1, 4, 4, false, .r, false, 0, .any, none, .all, [0], []⟩,
  ⟨0x2207, 0, 0, 4, false, .rw, true, 3, .between 100000 40000000, none, .all, [20000000], [40000000]⟩,
  ⟨0x2210, 1, 4, 2, false, .rwc, true, 3, .any, some .flow, .all, [8192], []⟩,
  ⟨0x2211, 1, 4, 2, false, .rwc, true, 3, .any, some .flow, .all, [0], []⟩,
  ⟨0x2212, 1, 4, 2, false, .rwc, true, 3, .any, some .flow, .all, [0], []⟩,
  ⟨0x2213, 1, 4, 2, false, .rwc, true, 3, .any, some .flow, .all, [0], []⟩,
  ⟨0x2214, 1, 4, 2, false, .rwc, true, 3, .any, some .flow, .all, [0], []⟩,
  ⟨0x2218, 0, 0, 4, false, .rwc, true, 3, .any, some .flow, .all, [0], []⟩,
  ⟨0x2219, 0, 0, 4, false, .rwc, true, 3, .between 500000 2000000, some .flow, .all, [1000000], []⟩,
  ⟨0x221A, 0, 0, 1, false, .x, false, 3, .oneOf [1, 2], none, .all, [0], []⟩,
  ⟨0x2220, 1, 8, 4, false, .rwc, true, 3, .any, some .flow, .all, [0], []⟩]

def dictRows6 : List ObjDef := [
  ⟨0x2221, 1, 8, 4, true, .rwc, true, 3, .between (-200000) 200000, some .flow, .all, [0], []⟩,
  ⟨0x2222, 0, 0, 1, false, .rwc, true, 3, .between 0 8, some .flow, .all, [0], []⟩,
  ⟨0x2228, 0, 0, 4, false, .rw, true, 3, .between 0 10000000, none, .all, [1000], []⟩,
  ⟨0x2229, 0, 0, 4, false, .rw, true, 3, .any, none, .all, [500], []⟩,
  ⟨0x222A, 0, 0, 2, false, .rw, true, 3, .between 10 65535, none, .all, [600], []⟩,
  ⟨0x222B, 0, 0, 1, false, .rw, true, 3, .between 4 12, none, .all, [8], []⟩,
  ⟨0x222C, 0, 0, 4, false, .rw, true, 3, .between 1000 1000000, none, .all, [50000], []⟩,
  ⟨0x222D, 0, 0, 1, false, .x, true, 3, .oneOf [1], none, .all, [0], []⟩,
  ⟨0x2230, 0, 0, 2, false, .rw, true, 3, .between 10 5000, none, .all, [200], []⟩,
  ⟨0x2231, 0, 0, 2, false, .rw, true, 3, .between 10 1000, none, .all, [50], []⟩,
  ⟨0x2232, 0, 0, 4, false, .rw, true, 3, .any, none, .gas, [250000], []⟩,
  ⟨0x2233, 0, 0, 4, false, .rw, true, 3, .any, none, .gas, [1400000], []⟩,
  ⟨0x2234, 0, 0, 4, false, .r, false, 0, .any, none, .liquid, [0], []⟩,
  ⟨0x2238, 0, 0, 1, false, .rw, true, 3, .between 0 1, none, .gas, [0], []⟩,
  ⟨0x2239, 0, 0, 2, true, .rw, true, 3, .between (-5000) 5000, none, .gas, [1500], []⟩,
  ⟨0x2240, 0, 0, 4, true, .r, false, 0, .any, none, .all, [0], []⟩,
  ⟨0x2241, 0, 0, 4, true, .r, false, 0, .any, none, .all, [0], []⟩,
  ⟨0x2242, 0, 0, 4, true, .r, false, 0, .any, none, .all, [0], []⟩,
  ⟨0x2243, 0, 0, 4, false, .r, false, 0, .any, none, .all, [0], []⟩,
  ⟨0x2244, 0, 0, 2, false, .r, false, 0, .any, none, .all, [4], []⟩,
  ⟨0x2245, 0, 0, 1, false, .r, false, 0, .any, none, .all, [0], []⟩,
  ⟨0x2246, 0, 0, 1, false, .r, false, 0, .any, none, .all, [0], []⟩,
  ⟨0x2250, 0, 0, 8, false, .r, false, 0, .any, none, .all, [0], []⟩,
  ⟨0x2251, 0, 0, 8, false, .r, false, 0, .any, none, .all, [0], []⟩,
  ⟨0x2252, 0, 0, 8, false, .r, false, 0, .any, none, .gas, [0], []⟩,
  ⟨0x2253, 0, 0, 8, false, .r, false, 0, .any, none, .all, [0], []⟩,
  ⟨0x2254, 0, 0, 4, false, .r, false, 0, .any, none, .all, [0], []⟩,
  ⟨0x2255, 0, 0, 4, false, .r, false, 0, .any, none, .all, [0], []⟩,
  ⟨0x2258, 0, 0, 4, false, .rw, false, 3, .between 0 10000000, none, .all, [5000], []⟩,
  ⟨0x2259, 0, 0, 2, false, .rw, false, 3, .between 1 65535, none, .all, [60], []⟩,
  ⟨0x2300, 1, 4, 1, false, .rwc, true, 3, .between 0 6, some .temperature, .all, [1, 2, 0, 0], [6, 0, 0, 0]⟩,
  ⟨0x2301, 0, 0, 2, false, .rwc, true, 3, .between 1 3600, some .temperature, .all, [8], []⟩]

def dictRows7 : List ObjDef := [
  ⟨0x2302, 1, 4, 4, false, .rwc, true, 3, .between 100000 10000000, some .temperature, .all, [1000000], []⟩,
  ⟨0x2303, 1, 4, 4, true, .rwc, true, 3, .any, some .temperature, .all, [39083000], []⟩,
  ⟨0x2304, 1, 4, 4, true, .rwc, true, 3, .any, some .temperature, .all, [4294389796], []⟩,
  ⟨0x2305, 1, 4, 4, true, .rwc, true, 3, .any, some .temperature, .all, [4290784296], []⟩,
  ⟨0x2306, 1, 4, 4, false, .rwc, true, 3, .between 0 100000, some .temperature, .all, [0], []⟩,
  ⟨0x2307, 0, 0, 4, false, .rwc, true, 3, .between 100000 10000000, some .temperature, .all, [1000000], []⟩,
  ⟨0x2308, 1, 4, 2, true, .rwc, true, 3, .between (-500) 500, some .temperature, .all, [0], []⟩,
  ⟨0x2309, 1, 4, 4, true, .rwc, true, 3, .between (-2000) 2000, some .temperature, .all, [0], []⟩,
  ⟨0x230A, 0, 0, 1, false, .x, false, 3, .oneOf [1, 2], none, .all, [0], []⟩,
  ⟨0x230B, 0, 0, 2, false, .rw, true, 3, .between 50 5000, none, .all, [300], []⟩,
  ⟨0x2310, 1, 4, 4, true, .r, false, 0, .any, none, .all, [0], []⟩,
  ⟨0x2311, 1, 4, 4, false, .r, false, 0, .any, none, .all, [0], []⟩,
  ⟨0x2312, 1, 4, 1, false, .r, false, 0, .any, none, .all, [0], []⟩,
  ⟨0x2313, 0, 0, 1, false, .r, false, 0, .any, none, .all, [0], []⟩,
  ⟨0x2314, 0, 0, 8, false, .r, false, 0, .any, none, .all, [0], []⟩,
  ⟨0x2315, 0, 0, 4, false, .r, false, 0, .any, none, .all, [0], []⟩,
  ⟨0x2316, 0, 0, 4, false, .r, false, 0, .any, none, .all, [0], []⟩,
  ⟨0x2317, 0, 0, 1, false, .r, false, 0, .any, none, .all, [0], []⟩,
  ⟨0x2400, 0, 0, 1, false, .rwc, true, 3, .between 0 1, some .heat, .heat, [0], []⟩,
  ⟨0x2401, 0, 0, 1, false, .rwc, true, 3, .between 0 2, some .heat, .heat, [0], []⟩,
  ⟨0x2402, 0, 0, 2, false, .rwc, true, 3, .between 0 3000, some .heat, .heat, [200], []⟩,
  ⟨0x2403, 0, 0, 2, true, .rwc, true, 3, .between 500 5000, some .heat, .heat, [1800], []⟩,
  ⟨0x2404, 0, 0, 1, false, .rwc, true, 3, .between 0 1, some .heat, .heat, [0], []⟩,
  ⟨0x2405, 0, 0, 1, false, .x, false, 3, .oneOf [1, 2], none, .heat, [0], []⟩,
  ⟨0x2408, 1, 16, 2, true, .rwc, true, 3, .between (-400) 2000, some .heat, .heat, [0], []⟩,
  ⟨0x2409, 1, 16, 64, false, .rwc, true, 3, .any, some .heat, .heat, [0], []⟩,
  ⟨0x2410, 0, 0, 4, true, .r, false, 0, .any, none, .heat, [0], []⟩,
  ⟨0x2411, 0, 0, 4, true, .r, false, 0, .any, none, .heat, [0], []⟩,
  ⟨0x2412, 0, 0, 4, true, .r, false, 0, .any, none, .heat, [0], []⟩,
  ⟨0x2413, 0, 0, 4, false, .r, false, 0, .any, none, .heat, [0], []⟩,
  ⟨0x2414, 0, 0, 4, true, .r, false, 0, .any, none, .heat, [0], []⟩,
  ⟨0x2415, 0, 0, 2, false, .r, false, 0, .any, none, .heat, [0], []⟩]

def dictRows8 : List ObjDef := [
  ⟨0x2420, 0, 0, 8, false, .r, false, 0, .any, none, .heat, [0], []⟩,
  ⟨0x2421, 0, 0, 8, false, .r, false, 0, .any, none, .heat, [0], []⟩,
  ⟨0x2422, 0, 0, 4, false, .r, false, 0, .any, none, .heat, [0], []⟩,
  ⟨0x2500, 0, 0, 1, false, .rwc, true, 3, .between 0 1, some .elec, .elec, [0], []⟩,
  ⟨0x2501, 0, 0, 2, false, .rwc, true, 3, .between 1000 2770, some .elec, .elec, [2300], []⟩,
  ⟨0x2502, 0, 0, 1, false, .rwc, true, 3, .oneOf [50, 60], some .elec, .elec, [50], []⟩,
  ⟨0x2503, 0, 0, 2, false, .rwc, true, 3, .between 0 1024, some .elec, .elec, [0], []⟩,
  ⟨0x2504, 1, 2, 1, false, .rwc, true, 3, .between 0 2, some .elec, .elec, [0], []⟩,
  ⟨0x2505, 0, 0, 4, false, .rwc, true, 3, .any, some .elec, .elec, [59664250], []⟩,
  ⟨0x2506, 1, 2, 4, false, .rwc, true, 3, .any, some .elec, .elec, [298023224], []⟩,
  ⟨0x2507, 1, 2, 4, true, .r, false, 0, .any, none, .elec, [1048576], []⟩,
  ⟨0x2508, 0, 0, 1, false, .rwc, true, 3, .between 0 2, some .elec, .elec, [0], []⟩,
  ⟨0x2509, 0, 0, 4, false, .rw, true, 3, .between 0 100000, none, .elec, [1150], []⟩,
  ⟨0x250A, 0, 0, 2, false, .rw, false, 3, .between 500 980, none, .elec, [900], []⟩,
  ⟨0x250B, 0, 0, 2, false, .rw, false, 3, .between 1020 1500, none, .elec, [1100], []⟩,
  ⟨0x250C, 0, 0, 2, false, .rw, false, 3, .between 10 490, none, .elec, [50], []⟩,
  ⟨0x250D, 0, 0, 2, false, .rw, false, 3, .between 5 100, none, .elec, [20], []⟩,
  ⟨0x250E, 0, 0, 2, false, .rw, true, 3, .between 10 500, none, .elec, [100], []⟩,
  ⟨0x250F, 1, 2, 1, false, .rwc, true, 3, .between 0 2, some .elec, .elec, [0], []⟩,
  ⟨0x2510, 1, 8, 4, false, .rwc, true, 3, .any, some .elec, .elec, [0], []⟩,
  ⟨0x2511, 1, 8, 4, false, .rwc, true, 3, .any, some .elec, .elec, [0], []⟩,
  ⟨0x2512, 1, 8, 4, true, .rwc, true, 3, .between (-200000) 200000, some .elec, .elec, [0], []⟩,
  ⟨0x2513, 1, 8, 4, true, .rwc, true, 3, .between (-200000) 200000, some .elec, .elec, [0], []⟩,
  ⟨0x2514, 1, 8, 4, true, .rwc, true, 3, .between (-10000) 10000, some .elec, .elec, [0], []⟩,
  ⟨0x2515, 1, 8, 4, true, .rwc, true, 3, .between (-10000) 10000, some .elec, .elec, [0], []⟩,
  ⟨0x2516, 1, 2, 1, false, .rwc, true, 3, .between 0 8, some .elec, .elec, [0], []⟩,
  ⟨0x2518, 0, 0, 1, false, .x, false, 3, .oneOf [1, 2], none, .elec, [0], []⟩,
  ⟨0x251A, 0, 0, 1, false, .rw, false, 3, .between 0 2, none, .elec, [0], []⟩,
  ⟨0x251B, 0, 0, 1, false, .x, false, 3, .oneOf [1], none, .elec, [0], []⟩,
  ⟨0x2520, 0, 0, 4, false, .r, false, 0, .any, none, .elec, [0], []⟩,
  ⟨0x2521, 0, 0, 4, false, .r, false, 0, .any, none, .elec, [0], []⟩,
  ⟨0x2522, 1, 2, 4, false, .r, false, 0, .any, none, .elec, [0], []⟩]

def dictRows9 : List ObjDef := [
  ⟨0x2523, 1, 2, 4, true, .r, false, 0, .any, none, .elec, [0], []⟩,
  ⟨0x2524, 1, 2, 4, true, .r, false, 0, .any, none, .elec, [0], []⟩,
  ⟨0x2525, 1, 2, 4, true, .r, false, 0, .any, none, .elec, [0], []⟩,
  ⟨0x2526, 1, 2, 4, false, .r, false, 0, .any, none, .elec, [0], []⟩,
  ⟨0x2527, 0, 0, 4, false, .r, false, 0, .any, none, .elec, [0], []⟩,
  ⟨0x2528, 1, 2, 2, true, .r, false, 0, .any, none, .elec, [0], []⟩,
  ⟨0x2529, 0, 0, 2, false, .r, false, 0, .any, none, .elec, [0], []⟩,
  ⟨0x252A, 1, 2, 1, false, .r, false, 0, .any, none, .elec, [1], []⟩,
  ⟨0x252B, 0, 0, 2, false, .r, false, 0, .any, none, .elec, [0], []⟩,
  ⟨0x2530, 1, 2, 8, false, .r, false, 0, .any, none, .elec, [0], []⟩,
  ⟨0x2531, 1, 2, 8, false, .r, false, 0, .any, none, .elec, [0], []⟩,
  ⟨0x2532, 1, 2, 8, false, .r, false, 0, .any, none, .elec, [0], []⟩,
  ⟨0x2533, 1, 2, 8, false, .r, false, 0, .any, none, .elec, [0], []⟩,
  ⟨0x2535, 1, 3, 4, false, .r, false, 0, .any, none, .elec, [0], []⟩,
  ⟨0x2536, 0, 0, 18, false, .r, false, 0, .any, none, .elec, [0], []⟩,
  ⟨0x2537, 0, 0, 4, false, .r, false, 0, .any, none, .elec, [0], []⟩,
  ⟨0x2540, 0, 0, 4, true, .r, false, 0, .any, none, .elec, [0], []⟩,
  ⟨0x2541, 0, 0, 4, true, .r, false, 0, .any, none, .elec, [0], []⟩,
  ⟨0x2542, 0, 0, 8, false, .r, false, 0, .any, none, .elec, [0], []⟩,
  ⟨0x2600, 1, 4, 1, false, .rwc, true, 3, .between 0 3, some .pulse, .all, [0], []⟩,
  ⟨0x2601, 1, 4, 2, false, .rwc, true, 3, .between 0 2500, some .pulse, .all, [20], []⟩,
  ⟨0x2602, 1, 4, 2, false, .rwc, true, 3, .between 5 2500, some .pulse, .all, [10], []⟩,
  ⟨0x2603, 1, 4, 1, false, .rwc, true, 3, .between 0 2, some .pulse, .all, [0], []⟩,
  ⟨0x2604, 1, 4, 4, false, .rwc, true, 3, .between 1 1000000000, some .pulse, .all, [1], []⟩,
  ⟨0x2605, 0, 0, 1, false, .rwc, true, 3, .between 0 3, some .pulse, .all, [0], []⟩,
  ⟨0x2606, 0, 0, 2, false, .rw, false, 3, .between 1 3600, none, .all, [60], []⟩,
  ⟨0x2607, 1, 4, 1, false, .rwc, true, 3, .between 0 1, some .pulse, .all, [0], []⟩,
  ⟨0x2608, 1, 4, 1, false, .rwc, false, 3, .between 0 1, some .pulse, .all, [0], []⟩,
  ⟨0x2609, 0, 0, 1, false, .x, false, 3, .oneOf [1, 2], none, .all, [0], []⟩,
  ⟨0x2610, 1, 4, 8, false, .r, false, 0, .any, none, .all, [0], []⟩,
  ⟨0x2611, 1, 4, 8, false, .r, false, 0, .any, none, .all, [0], []⟩,
  ⟨0x2612, 1, 4, 4, false, .r, false, 0, .any, none, .all, [0], []⟩]

def dictRows10 : List ObjDef := [
  ⟨0x2613, 1, 4, 1, false, .r, false, 0, .any, none, .all, [0], []⟩,
  ⟨0x2614, 1, 4, 4, false, .r, false, 0, .any, none, .all, [0], []⟩,
  ⟨0x2615, 1, 2, 4, false, .r, false, 0, .any, none, .all, [0], []⟩,
  ⟨0x2620, 1, 3, 1, false, .rwc, true, 3, .between 0 13, some .pulse, .all, [0], []⟩,
  ⟨0x2621, 1, 3, 4, false, .rwc, true, 3, .between 1 1000000000, some .pulse, .all, [1000], []⟩,
  ⟨0x2622, 1, 3, 1, false, .rwc, true, 3, .between 1 250, some .pulse, .all, [10], []⟩,
  ⟨0x2623, 1, 3, 4, false, .r, false, 0, .any, none, .all, [0], []⟩,
  ⟨0x2624, 1, 3, 8, false, .r, false, 0, .any, none, .all, [0], []⟩,
  ⟨0x2625, 0, 0, 4, false, .rw, false, 3, .between 1 1000000, none, .all, [1000], []⟩,
  ⟨0x3000, 0, 0, 8, false, .r, false, 0, .any, none, .all, [0], []⟩,
  ⟨0x3001, 0, 0, 8, false, .x, false, 3, .any, none, .all, [0], []⟩,
  ⟨0x3002, 0, 0, 4, true, .x, false, 2, .any, none, .all, [0], []⟩,
  ⟨0x3003, 0, 0, 1, false, .r, false, 0, .any, none, .all, [0], []⟩,
  ⟨0x3004, 0, 0, 8, false, .r, false, 0, .any, none, .all, [0], []⟩,
  ⟨0x3008, 0, 0, 7, false, .r, false, 0, .any, none, .all, [9007203566485504], []⟩,
  ⟨0x3009, 0, 0, 7, false, .x, false, 3, .any, none, .all, [0], []⟩,
  ⟨0x300A, 0, 0, 1, true, .rw, false, 3, .between (-48) 56, none, .all, [0], []⟩,
  ⟨0x300B, 0, 0, 1, true, .rw, false, 3, .between (-48) 56, none, .all, [0], []⟩,
  ⟨0x300C, 0, 0, 8, false, .rw, false, 3, .any, none, .all, [0], []⟩,
  ⟨0x300D, 0, 0, 1, false, .rw, false, 2, .between 1 7, none, .all, [1], []⟩,
  ⟨0x3010, 1, 2, 7, false, .rw, false, 2, .any, none, .all, [0], []⟩,
  ⟨0x3011, 0, 0, 1, false, .rw, false, 1, .any, none, .all, [0], []⟩,
  ⟨0x3012, 0, 0, 4, false, .rw, false, 2, .between 0 16777215, none, .all, [0], []⟩,
  ⟨0x3013, 0, 0, 4, false, .r, false, 0, .any, none, .all, [0], []⟩,
  ⟨0x3018, 0, 0, 4, true, .rw, true, 3, .between (-50000) 50000, none, .all, [0], []⟩,
  ⟨0x3019, 0, 0, 4, true, .r, false, 0, .any, none, .all, [0], []⟩,
  ⟨0x301A, 0, 0, 2, true, .rw, true, 3, .between (-500) 500, none, .all, [0], []⟩,
  ⟨0x301B, 0, 0, 4, true, .r, false, 0, .any, none, .all, [0], []⟩,
  ⟨0x301C, 0, 0, 4, true, .r, false, 0, .any, none, .all, [0], []⟩,
  ⟨0x3020, 0, 0, 1, false, .rw, false, 3, .any, none, .all, [22], []⟩,
  ⟨0x3021, 0, 0, 2, false, .rw, false, 3, .between 10 60000, none, .all, [2000], []⟩,
  ⟨0x3022, 0, 0, 1, false, .rw, false, 3, .between 10 200, none, .all, [100], []⟩]

def dictRows11 : List ObjDef := [
  ⟨0x3023, 0, 0, 2, false, .rw, false, 3, .between 1 500, none, .all, [200], []⟩,
  ⟨0x3024, 0, 0, 2, false, .rw, false, 3, .between 100 5000, none, .all, [2000], []⟩,
  ⟨0x3025, 0, 0, 2, false, .rw, false, 3, .between 100 20000, none, .all, [5000], []⟩,
  ⟨0x3026, 0, 0, 4, false, .rw, false, 3, .between 3600 2592000, none, .all, [86400], []⟩,
  ⟨0x3027, 0, 0, 1, false, .rw, false, 3, .between 1 60, none, .all, [7], []⟩,
  ⟨0x3028, 0, 0, 2, false, .rw, false, 3, .between 1 365, none, .all, [14], []⟩,
  ⟨0x3029, 0, 0, 8, false, .r, false, 0, .any, none, .all, [0], []⟩,
  ⟨0x302A, 0, 0, 4, true, .r, false, 0, .any, none, .all, [0], []⟩,
  ⟨0x302B, 0, 0, 4, true, .r, false, 0, .any, none, .all, [0], []⟩,
  ⟨0x302C, 0, 0, 1, false, .r, false, 0, .any, none, .all, [0], []⟩,
  ⟨0x3030, 0, 0, 8, true, .r, false, 0, .any, none, .all, [0], []⟩,
  ⟨0x3031, 0, 0, 4, false, .r, false, 0, .any, none, .all, [0], []⟩,
  ⟨0x3040, 0, 0, 32, false, .rw, false, 2, .any, none, .all, [0], []⟩,
  ⟨0x3100, 0, 0, 2, false, .rw, false, 3, .between 1 1024, none, .all, [16], []⟩,
  ⟨0x3101, 0, 0, 2, false, .rw, false, 3, .between 1 3600, none, .all, [16], []⟩,
  ⟨0x3102, 0, 0, 1, false, .x, false, 2, .oneOf [1], none, .all, [0], []⟩,
  ⟨0x3103, 0, 0, 4, false, .r, false, 0, .any, none, .all, [0], []⟩,
  ⟨0x3104, 0, 0, 240, false, .r, false, 0, .any, none, .all, [0], []⟩,
  ⟨0x3105, 0, 0, 4, false, .r, false, 0, .any, none, .all, [0], []⟩,
  ⟨0x3110, 1, 4, 8, false, .r, false, 0, .any, none, .all, [0], []⟩,
  ⟨0x3111, 1, 4, 1, false, .rwc, true, 3, .any, some .tariff, .all, [4], [1]⟩,
  ⟨0x3112, 1, 4, 1, false, .rwc, true, 3, .between 0 7, some .tariff, .all, [1, 0, 0, 0], []⟩,
  ⟨0x3113, 1, 4, 4, true, .rwc, true, 3, .any, some .tariff, .all, [0], []⟩,
  ⟨0x3114, 1, 4, 5, false, .rwc, true, 3, .any, some .tariff, .all, [0], []⟩,
  ⟨0x3115, 0, 0, 1, false, .x, false, 3, .oneOf [1, 2], none, .all, [0], []⟩,
  ⟨0x3116, 0, 0, 1, false, .r, false, 0, .any, none, .all, [1], []⟩,
  ⟨0x3120, 0, 0, 2, false, .rw, true, 3, .between 0 1439, none, .all, [0], []⟩,
  ⟨0x3121, 0, 0, 1, false, .rw, true, 3, .between 1 28, none, .all, [1], []⟩,
  ⟨0x3122, 0, 0, 4, false, .rw, true, 3, .bits 8, none, .all, [9], []⟩,
  ⟨0x3123, 0, 0, 4, false, .rw, false, 1, .any, none, .all, [0], []⟩,
  ⟨0x3124, 0, 0, 256, false, .r, false, 1, .any, none, .all, [0], []⟩,
  ⟨0x3125, 1, 2, 4, false, .r, false, 0, .any, none, .all, [0], []⟩]

def dictRows12 : List ObjDef := [
  ⟨0x3126, 1, 2, 4, false, .r, false, 0, .any, none, .all, [0], []⟩,
  ⟨0x3130, 0, 0, 2, false, .rw, false, 3, .divides 1440, none, .all, [60], []⟩,
  ⟨0x3131, 1, 8, 1, false, .rw, false, 3, .between 0 28, none, .all, [1, 4, 0], []⟩,
  ⟨0x3132, 0, 0, 4, false, .rw, false, 1, .any, none, .all, [0], []⟩,
  ⟨0x3133, 0, 0, 240, false, .r, false, 1, .any, none, .all, [0], []⟩,
  ⟨0x3134, 0, 0, 4, false, .r, false, 0, .any, none, .all, [0], []⟩,
  ⟨0x3135, 0, 0, 4, false, .r, false, 0, .any, none, .all, [0], []⟩,
  ⟨0x3140, 0, 0, 2, false, .rw, false, 3, .between 0 1439, none, .all, [720], []⟩,
  ⟨0x3141, 0, 0, 8, false, .r, false, 0, .any, none, .all, [0], []⟩,
  ⟨0x7000, 0, 0, 4, false, .r, false, 0, .any, none, .all, [0], []⟩,
  ⟨0x7001, 0, 0, 4, false, .r, false, 0, .any, none, .all, [0], []⟩,
  ⟨0x7002, 0, 0, 4, false, .rw, false, 1, .any, none, .all, [1], []⟩,
  ⟨0x7003, 0, 0, 240, false, .r, false, 1, .any, none, .all, [0], []⟩,
  ⟨0x7004, 0, 0, 4, false, .r, false, 0, .any, none, .all, [0], []⟩,
  ⟨0x7008, 0, 0, 4, false, .r, false, 0, .any, none, .all, [0], []⟩,
  ⟨0x7009, 0, 0, 4, false, .rw, false, 2, .any, none, .all, [0], []⟩,
  ⟨0x700A, 0, 0, 4, false, .rw, false, 1, .any, none, .all, [1], []⟩,
  ⟨0x700B, 0, 0, 240, false, .r, false, 1, .any, none, .all, [0], []⟩,
  -- `IrqEnable` and `IrqStatus` give bit [7] no meaning: a 1 in it is out of range (DESIGN CHOICE, log entry 97).
  ⟨0x7010, 0, 0, 1, false, .rw, false, 2, .between 0 127, none, .all, [0], []⟩,
  ⟨0x7011, 0, 0, 1, false, .rw, false, 0, .between 0 127, none, .all, [0], []⟩,
  ⟨0x5000, 0, 0, 1, false, .rw, false, 3, .any, none, .all, [0], []⟩,
  ⟨0x5001, 0, 0, 1, false, .r, false, 0, .between 0 1, none, .all, [1], []⟩,
  ⟨0x5002, 0, 0, 2, false, .r, false, 0, .any, none, .all, [0], []⟩,
  ⟨0x5003, 0, 0, 4, false, .r, false, 0, .any, none, .all, [0], []⟩,
  ⟨0x5004, 0, 0, 4, false, .r, false, 0, .any, none, .all, [0], []⟩,
  ⟨0x5010, 0, 0, 1, false, .rw, false, 3, .between 0 1, none, .all, [0], []⟩,
  ⟨0x5011, 0, 0, 2, false, .rw, false, 3, .oneOf [1200, 2400, 4800, 9600, 19200], none, .all, [2400], []⟩,
  ⟨0x5012, 0, 0, 1, false, .x, false, 3, .oneOf [1, 2], none, .all, [0], []⟩,
  ⟨0x5013, 0, 0, 2, false, .rw, false, 3, .orZero 10 65535, none, .all, [60], []⟩,
  ⟨0x5014, 0, 0, 2, false, .rw, false, 3, .orZero 60 65535, none, .all, [900], []⟩,
  ⟨0x5015, 0, 0, 2, false, .rw, false, 3, .between 0 10000, none, .all, [2000], []⟩,
  ⟨0x5016, 0, 0, 2, false, .rw, false, 3, .between 500 10000, none, .all, [2000], []⟩]

def dictRows13 : List ObjDef := [
  ⟨0x5017, 0, 0, 2, false, .rw, false, 3, .between 3000 10000, none, .all, [6000], []⟩,
  ⟨0x5018, 0, 0, 1, false, .r, false, 0, .any, none, .all, [0], []⟩,
  ⟨0x5019, 0, 0, 1, false, .r, false, 0, .any, none, .all, [0], []⟩,
  ⟨0x501A, 0, 0, 4, false, .r, false, 0, .any, none, .all, [0], []⟩,
  ⟨0x501B, 0, 0, 240, false, .x, false, 2, .any, none, .all, [0], []⟩,
  ⟨0x501C, 0, 0, 250, false, .r, false, 0, .any, none, .all, [0], []⟩,
  ⟨0x501D, 0, 0, 1, false, .rw, false, 3, .between 1 255, none, .all, [3], []⟩,
  ⟨0x5100, 0, 0, 1, false, .rw, false, 3, .oneOf [4, 8], none, .all, [4], []⟩,
  ⟨0x5101, 0, 0, 4, false, .r, false, 0, .any, none, .all, [0], []⟩,
  ⟨0x5110, 0, 0, 1, false, .rw, false, 3, .between 0 1, none, .all, [1], []⟩,
  ⟨0x5111, 0, 0, 8, false, .r, false, 0, .any, none, .all, [0], []⟩,
  ⟨0x5112, 0, 0, 1, false, .rw, false, 3, .between 0 15, none, .all, [7], []⟩,
  ⟨0x5113, 0, 0, 4, false, .r, false, 0, .any, none, .all, [0], []⟩,
  ⟨0x5114, 0, 0, 4, false, .r, false, 0, .any, none, .all, [0], []⟩,
  ⟨0x5115, 0, 0, 4, false, .r, false, 0, .any, none, .all, [0], []⟩,
  ⟨0x5200, 0, 0, 1, false, .rwc, false, 3, .between 0 3, some .radio, .all, [2], []⟩,
  ⟨0x5201, 0, 0, 1, false, .rwc, false, 3, .between 0 2, some .radio, .all, [0], []⟩,
  ⟨0x5202, 0, 0, 1, true, .rwc, false, 3, .between (-10) 27, some .radio, .all, [14], []⟩,
  ⟨0x5203, 0, 0, 1, false, .rwc, false, 3, .between 0 20, some .radio, .all, [0], []⟩,
  ⟨0x5204, 0, 0, 1, false, .rwc, false, 3, .between 0 200, some .radio, .all, [20], []⟩,
  ⟨0x5205, 0, 0, 8, false, .rwc, false, 3, .any, some .radio, .all, [70931694131085312], []⟩,
  ⟨0x5206, 0, 0, 1, false, .rwc, false, 3, .any, some .radio, .all, [0], []⟩,
  ⟨0x5207, 1, 3, 1, false, .rwc, false, 3, .any, some .radio, .all, [53, 64, 65], []⟩,
  ⟨0x5208, 0, 0, 1, false, .rwc, false, 3, .any, some .radio, .all, [65], []⟩,
  ⟨0x5209, 0, 0, 2, false, .rwc, false, 3, .between 64 2048, some .radio, .all, [1024], []⟩,
  ⟨0x520A, 0, 0, 1, true, .rwc, false, 3, .between (-125) (-60), some .radio, .all, [156], []⟩,
  ⟨0x520B, 0, 0, 1, false, .x, false, 3, .oneOf [1, 2], none, .all, [0], []⟩,
  ⟨0x520C, 0, 0, 1, false, .rw, false, 3, .between 3 40, none, .all, [12], []⟩,
  ⟨0x520D, 0, 0, 1, false, .rw, false, 3, .between 1 15, none, .all, [3], []⟩,
  ⟨0x520E, 0, 0, 2, false, .rw, false, 3, .between 10 2000, none, .all, [100], []⟩,
  ⟨0x5210, 1, 8, 16, false, .rwc, false, 3, .any, some .radio, .all, [68770045078404286933774884482842624, 68825504792175340016395434038657024, 68880964505943626089074810664517632, 68904732954704361749387102570676224, 68373904265858790687371201163034624, 13421250733042640740392890722680832, 34309755784822631252238572034457600, 71463802604985011025240989821436304], []⟩,
  ⟨0x5211, 0, 0, 2, false, .rwc, false, 3, .between 1 3600, some .radio, .all, [20], []⟩]

def dictRows14 : List ObjDef := [
  ⟨0x5212, 1, 8, 4, false, .r, false, 0, .any, none, .all, [0], []⟩,
  ⟨0x5213, 0, 0, 1, true, .rw, false, 3, .between (-110) (-60), none, .all, [171], []⟩,
  ⟨0x5214, 0, 0, 2, false, .rw, false, 3, .between 160 10000, none, .all, [5000], []⟩,
  ⟨0x5218, 1, 4, 2, false, .rw, false, 3, .between 1 65535, none, .all, [3600, 60, 900, 10], []⟩,
  ⟨0x5219, 0, 0, 4, false, .rw, false, 3, .any, none, .all, [57], [5]⟩,
  ⟨0x521A, 0, 0, 2, false, .rw, false, 3, .orZero 60 65535, none, .all, [900], []⟩,
  ⟨0x521B, 0, 0, 4, false, .rw, false, 3, .any, none, .all, [2101], []⟩,
  ⟨0x5220, 1, 4, 4, false, .r, false, 0, .any, none, .all, [0], []⟩,
  ⟨0x5221, 1, 5, 4, false, .r, false, 0, .any, none, .all, [0], []⟩,
  ⟨0x5222, 0, 0, 1, false, .r, false, 0, .any, none, .all, [0], []⟩,
  ⟨0x5223, 0, 0, 8, false, .r, false, 0, .any, none, .all, [0], []⟩,
  ⟨0x5224, 0, 0, 1, false, .r, false, 0, .any, none, .all, [10], []⟩,
  ⟨0x5225, 0, 0, 4, false, .r, false, 0, .any, none, .all, [0], []⟩,
  ⟨0x5230, 0, 0, 16, false, .w, false, 3, .any, none, .all, [0], []⟩,
  ⟨0x5231, 0, 0, 16, false, .w, false, 3, .any, none, .all, [0], []⟩,
  ⟨0x5232, 0, 0, 4, false, .r, false, 0, .any, none, .all, [0], []⟩,
  ⟨0x5238, 0, 0, 1, false, .rwc, false, 3, .between 0 4, some .radio, .all, [0], []⟩,
  ⟨0x5239, 0, 0, 1, false, .rwc, false, 3, .between 0 1, some .radio, .all, [0], []⟩,
  ⟨0x523A, 0, 0, 1, false, .rwc, false, 3, .oneOf [0, 5, 7], some .radio, .all, [7], []⟩,
  ⟨0x523B, 0, 0, 2, false, .rw, false, 3, .between 60 65535, none, .all, [900], []⟩,
  ⟨0x523C, 0, 0, 2, false, .rw, false, 3, .any, none, .all, [0], []⟩,
  ⟨0x523D, 0, 0, 4, false, .rw, false, 3, .any, none, .all, [0], []⟩,
  ⟨0x523E, 0, 0, 1, false, .rw, false, 3, .any, none, .all, [4], [3]⟩,
  ⟨0x523F, 0, 0, 1, false, .rw, false, 3, .any, none, .all, [1], []⟩,
  ⟨0x5240, 0, 0, 1, false, .rwc, false, 3, .any, some .radio, .all, [0], []⟩,
  ⟨0x5241, 0, 0, 1, false, .r, false, 0, .any, none, .all, [0], []⟩,
  ⟨0x5300, 0, 0, 2, false, .rwc, false, 3, .any, some .radio, .all, [65535], []⟩,
  ⟨0x5301, 0, 0, 4, false, .rwc, false, 3, .between 128 921600, some .radio, .all, [230400], []⟩,
  ⟨0x5302, 0, 0, 2, false, .rwc, false, 3, .between 10 2000, some .radio, .all, [100], []⟩,
  ⟨0x5303, 0, 0, 1, false, .rwc, false, 3, .between 2 64, some .radio, .all, [6], []⟩,
  ⟨0x5304, 0, 0, 2, false, .rwc, false, 3, .between 0 3600, some .radio, .all, [2], []⟩,
  ⟨0x5305, 0, 0, 2, false, .rw, false, 3, .orZero 60 65535, none, .all, [3600], []⟩]

def dictRows15 : List ObjDef := [
  ⟨0x5306, 0, 0, 16, false, .w, false, 3, .any, none, .all, [0], []⟩,
  ⟨0x5307, 0, 0, 8, false, .r, false, 0, .any, none, .all, [0], []⟩,
  ⟨0x5308, 0, 0, 1, false, .r, false, 0, .any, none, .all, [0], []⟩,
  ⟨0x5309, 0, 0, 1, false, .r, false, 0, .any, none, .all, [0], []⟩,
  ⟨0x530A, 0, 0, 2, false, .rw, false, 3, .between 60 65535, none, .all, [3600], []⟩,
  ⟨0x5310, 0, 0, 25, false, .x, false, 3, .any, none, .all, [0], []⟩,
  ⟨0x5311, 0, 0, 8, false, .x, false, 3, .any, none, .all, [0], []⟩,
  ⟨0x5312, 0, 0, 9, false, .x, false, 3, .any, none, .all, [0], []⟩,
  ⟨0x5313, 0, 0, 1, false, .rw, false, 1, .between 1 255, none, .all, [1], []⟩,
  ⟨0x5314, 0, 0, 16, false, .r, false, 1, .any, none, .all, [0], []⟩,
  ⟨0x5315, 0, 0, 90, false, .r, false, 1, .any, none, .all, [0], []⟩,
  ⟨0x5316, 0, 0, 1, false, .r, false, 0, .any, none, .all, [0], []⟩,
  ⟨0x5318, 0, 0, 11, false, .x, false, 0, .any, none, .all, [0], []⟩,
  ⟨0x5320, 0, 0, 240, false, .x, false, 2, .any, none, .all, [0], []⟩,
  ⟨0x5321, 0, 0, 250, false, .r, false, 0, .any, none, .all, [0], []⟩,
  ⟨0x5328, 0, 0, 240, false, .x, false, 2, .any, none, .all, [0], []⟩,
  ⟨0x5329, 0, 0, 240, false, .r, false, 1, .any, none, .all, [0], []⟩,
  ⟨0x532A, 0, 0, 1, false, .x, false, 1, .oneOf [1], none, .all, [0], []⟩,
  ⟨0x532B, 0, 0, 1, false, .r, false, 0, .any, none, .all, [0], []⟩,
  ⟨0x5330, 1, 4, 16, false, .r, false, 0, .any, none, .all, [0], []⟩,
  ⟨0x6000, 0, 0, 2, false, .r, false, 0, .any, none, .all, [0], []⟩,
  ⟨0x6001, 0, 0, 1, false, .r, false, 0, .any, none, .all, [1], []⟩,
  ⟨0x6002, 0, 0, 1, false, .r, false, 0, .any, none, .all, [0], []⟩,
  ⟨0x6008, 0, 0, 4, false, .r, false, 0, .any, none, .all, [0], []⟩,
  ⟨0x6009, 0, 0, 8, false, .r, false, 0, .any, none, .all, [0], []⟩,
  ⟨0x6010, 0, 0, 2, false, .x, false, 3, .any, none, .all, [0], []⟩,
  ⟨0x6011, 0, 0, 1, false, .r, false, 0, .any, none, .all, [0], []⟩,
  ⟨0x6012, 0, 0, 4, false, .rw, true, 3, .between 100000 10000000, none, .all, [2000000], []⟩,
  ⟨0x6013, 0, 0, 2, false, .r, false, 0, .any, none, .all, [0], []⟩,
  ⟨0x6018, 0, 0, 14, false, .x, false, 3, .any, none, .all, [0], []⟩]

/-- The whole dictionary, in index order of the chapters. -/
def dictionary : List ObjDef :=
  dictRows0 ++ dictRows1 ++ dictRows2 ++ dictRows3 ++ dictRows4 ++ dictRows5 ++ dictRows6 ++ dictRows7 ++ dictRows8 ++ dictRows9 ++ dictRows10 ++ dictRows11 ++ dictRows12 ++ dictRows13 ++ dictRows14 ++ dictRows15

/-- Does a value, read as the object's type, lie in its range (R137)? -/
def Rng.holds (g : Rng) (v : Int) : Bool :=
  match g with
  | .any => true
  | .between lo hi => decide (lo ≤ v) && decide (v ≤ hi)
  | .step lo hi st => decide (lo ≤ v) && decide (v ≤ hi) && decide ((v - lo) % st = 0)
  | .oneOf l => l.contains v
  | .orZero lo hi => decide (v = 0) || (decide (lo ≤ v) && decide (v ≤ hi))
  | .divides n => decide (0 < v) && decide (n % v = 0)
  | .bits n => decide (((List.range 32).filter (fun i => v.toNat.testBit i)).length ≤ n)

/-- Is an object of this availability present on the ordering code (R3, R6)? -/
def Avail.present (a : Avail) (c : OrderCode) : Bool :=
  match a, c with
  | .all, _ => true
  | .heat, .lq => true
  | .heat, .gs => false
  | .heat, .le => true
  | .elec, .lq => false
  | .elec, .gs => false
  | .elec, .le => true
  | .gas, .lq => false
  | .gas, .gs => true
  | .gas, .le => false
  | .liquid, .lq => true
  | .liquid, .gs => false
  | .liquid, .le => true

/-- The row of an index and sub-index. -/
def findObj (index sub : Nat) : Option ObjDef :=
  dictionary.find? (fun d => d.index == index && decide (d.lo ≤ sub) && decide (sub ≤ d.hi))

/-- The row of a key. -/
def rowOf (key : Nat) : Option ObjDef := findObj (key / 256) (key % 256)

/-- The value an object holds until something is written: its table default, by ordering code. -/
def dfltOf (c : OrderCode) (key : Nat) : Nat :=
  match rowOf key with
  | none => 0
  | some d =>
    let l := if c = .gs ∧ d.gs ≠ [] then d.gs else d.dflt
    (l[key % 256 - d.lo]?).getD (l.getLastD 0)

end Sys2Proof.Machine
end

