-- ==== Sys2Proof/Machine/Obj.lean ====
section
/-! DEFINITION. The keys of the object dictionary: index × 256 + sub-index, under the manual's own object names (chapters 00 to 19, "Objects").
An object with sub-indices takes its sub-index as argument. -/

namespace Sys2Proof.Machine.Obj

abbrev DeviceIdentity : Nat := 0x100000
abbrev OrderingCode : Nat := 0x100100
abbrev OptionFuses : Nat := 0x100200
abbrev SiliconRevision : Nat := 0x100300
abbrev DictionaryEdition : Nat := 0x100400
abbrev IcManufacturerCode : Nat := 0x100800
abbrev ActiveRoles : Nat := 0x101000
abbrev PowerMode : Nat := 0x110000
abbrev ActiveSources : Nat := 0x110100
abbrev VbatMeasured : Nat := 0x110200
abbrev VduskThreshold : Nat := 0x110300
abbrev VbatLowThreshold : Nat := 0x110400
abbrev DuskCount : Nat := 0x110500
abbrev LastDuskTime : Nat := 0x110600
abbrev VnfcMeasured : Nat := 0x110800
abbrev ReserveCapacitance : Nat := 0x110900
abbrev ReserveRequired : Nat := 0x110A00
abbrev TrickleCurrent : Nat := 0x111000
abbrev TrickleLimit : Nat := 0x111100
abbrev VbkMeasured : Nat := 0x111800
abbrev LeaveTransport : Nat := 0x112000
abbrev EnterTransport : Nat := 0x112100
abbrev ChargeUsed : Nat := 0x113000
abbrev ChargeLifetime : Nat := 0x113100
abbrev BatteryCapacity : Nat := 0x113200
abbrev UsableFraction : Nat := 0x113300
abbrev TargetLifetime : Nat := 0x113400
abbrev BatteryInstalledTime : Nat := 0x113500
abbrev AllowedAverageCurrent : Nat := 0x113600
abbrev BudgetBucket : Nat := 0x113700
abbrev BudgetBucketMax : Nat := 0x113800
abbrev BatteryReplaced : Nat := 0x113900
abbrev AverageCurrent24h : Nat := 0x113A00
abbrev VcoreSetting : Nat := 0x114000
abbrev VcoreHeadroom : Nat := 0x114100
abbrev BatterySwapPending : Nat := 0x114200
abbrev LfSource : Nat := 0x120000
abbrev LfSourceHealth : Nat := 0x120100
abbrev LfMargin : Nat := 0x120200
abbrev Xl2Fitted : Nat := 0x120300
abbrev Xl2LoadCap : Nat := 0x120400
abbrev Xl2Turnover : Nat := 0x120500
abbrev Xl2Curvature : Nat := 0x120600
abbrev LfTurnover : Nat := 0x120700
abbrev LfCurvature : Nat := 0x120800
abbrev LfCompensation : Nat := 0x120900
abbrev DieTemperature : Nat := 0x120A00
abbrev LfSourceReset : Nat := 0x120B00
abbrev LfFaultLimit : Nat := 0x120C00
abbrev LfRcOffset : Nat := 0x120D00
abbrev LfFailCount (sub : Nat) : Nat := 0x120E00 + sub
abbrev HfCorrection : Nat := 0x121000
abbrev HfAgeingRate : Nat := 0x121100
abbrev HfRefSource : Nat := 0x121200
abbrev HfStepLimit : Nat := 0x121300
abbrev HfLastMeasureTime : Nat := 0x121400
abbrev HfMeasured : Nat := 0x121500
abbrev HfMetrologyScale : Nat := 0x121600
abbrev HfStartFailCount : Nat := 0x121700
abbrev CclkSource : Nat := 0x122000
abbrev CclkRunTime : Nat := 0x122100
abbrev PortResetCount (sub : Nat) : Nat := 0x123000 + sub
abbrev AuthChallenge : Nat := 0x101800
abbrev AuthResponse : Nat := 0x101900
abbrev AuthLevel : Nat := 0x101A00
abbrev AuthLogout : Nat := 0x101B00
abbrev SessionIdleLimit : Nat := 0x101C00
abbrev AuthLockoutTime : Nat := 0x101D00
abbrev LevelKey (sub : Nat) : Nat := 0x101E00 + sub
abbrev AuthFailCount (sub : Nat) : Nat := 0x101F00 + sub
abbrev SealState : Nat := 0x102000
abbrev Seal : Nat := 0x102100
abbrev SealBreak : Nat := 0x102200
abbrev SealBreakCount : Nat := 0x102300
abbrev SealTime : Nat := 0x102400
abbrev MetrologyChecksum : Nat := 0x102500
abbrev StoreStage : Nat := 0x400000
abbrev LastCommittedTxn : Nat := 0x400100
abbrev WearMargin : Nat := 0x400200
abbrev RetiredUnits : Nat := 0x400300
abbrev EraseCountMax : Nat := 0x400400
abbrev EraseCountMean : Nat := 0x400500
abbrev JournalFill : Nat := 0x400600
abbrev CorrectedReads : Nat := 0x400700
abbrev UncorrectableReads : Nat := 0x400800
abbrev HalfEraseRecoveries : Nat := 0x400900
abbrev LastFaultSubcode : Nat := 0x400A00
abbrev NoEnergyRefusals : Nat := 0x400B00
abbrev ReplayTime : Nat := 0x400C00
abbrev CheckpointTxn : Nat := 0x400D00
abbrev ScrubCorrectLimit : Nat := 0x401000
abbrev WearLevelSpread : Nat := 0x401100
abbrev UnitEraseCount (sub : Nat) : Nat := 0x403000 + sub
abbrev ArbiterFreeze : Nat := 0x410000
abbrev StoreClass (sub : Nat) : Nat := 0x410100 + sub
abbrev StoreTagLimit (sub : Nat) : Nat := 0x410200 + sub
abbrev ArbiterCommit : Nat := 0x410300
abbrev LockLimit : Nat := 0x410400
abbrev FreezeLimit : Nat := 0x410500
abbrev StoreTagsHeld (sub : Nat) : Nat := 0x411000 + sub
abbrev SharedTagsFree : Nat := 0x411100
abbrev PreemptCount (sub : Nat) : Nat := 0x411200 + sub
abbrev TagRefusals (sub : Nat) : Nat := 0x411300 + sub
abbrev LongestWait (sub : Nat) : Nat := 0x411400 + sub
abbrev LongWaitThreshold : Nat := 0x411500
abbrev LockExpiredCount : Nat := 0x411600
abbrev SequenceOpen (sub : Nat) : Nat := 0x411700 + sub
abbrev TimerPreemptCount (sub : Nat) : Nat := 0x412000 + sub
abbrev ArbiterStatsClear : Nat := 0x413000
abbrev TdcPairState (sub : Nat) : Nat := 0x200000 + sub
abbrev TdcMargin : Nat := 0x200100
abbrev TdcMode : Nat := 0x200200
abbrev TdcCalAverage : Nat := 0x200300
abbrev TdcStepSize (sub : Nat) : Nat := 0x200400 + sub
abbrev TdcCalFailCount (sub : Nat) : Nat := 0x200500 + sub
abbrev TdcPairRetest : Nat := 0x200600
abbrev TdcOverflowCount : Nat := 0x200800
abbrev TdcCloseHitCount : Nat := 0x200900
abbrev FinEnable : Nat := 0x201000
abbrev FinPrescaler : Nat := 0x201100
abbrev FinHysteresis : Nat := 0x201200
abbrev FinHoldOff : Nat := 0x201300
abbrev FinGateTime : Nat := 0x201400
abbrev FinInterval : Nat := 0x201500
abbrev FinFrequency : Nat := 0x201600
abbrev FinMeasureTime : Nat := 0x201700
abbrev FinStatus : Nat := 0x201800
abbrev TdcSnapshotArm : Nat := 0x204000
abbrev TdcSnapshot : Nat := 0x204100
abbrev PathEnable (sub : Nat) : Nat := 0x210000 + sub
abbrev CyclePeriod : Nat := 0x210100
abbrev BurstStyle : Nat := 0x210200
abbrev CentreFrequency : Nat := 0x210300
abbrev ToneCycles : Nat := 0x210400
abbrev ChipCycles : Nat := 0x210500
abbrev ChirpCycles : Nat := 0x210600
abbrev ChirpSweep : Nat := 0x210700
abbrev DriveLevel : Nat := 0x210800
abbrev ShotSpacing : Nat := 0x210900
abbrev ZcHits : Nat := 0x210B00
abbrev ZcSkip : Nat := 0x210C00
abbrev FwFraction : Nat := 0x210D00
abbrev RxTargetAmplitude : Nat := 0x210E00
abbrev GainLoopEnable : Nat := 0x210F00
abbrev RxGain (sub : Nat) : Nat := 0x211000 + sub
abbrev TemplateSource : Nat := 0x211100
abbrev TemplateCapture : Nat := 0x211200
abbrev Template : Nat := 0x211300
abbrev AcousticCommit : Nat := 0x211400
abbrev ZcHysteresis : Nat := 0x211500
abbrev PathFailCycles : Nat := 0x211600
abbrev CentreFrequencyActual : Nat := 0x211700
abbrev TransitNominal (sub : Nat) : Nat := 0x211800 + sub
abbrev CorrSpan : Nat := 0x211900
abbrev TransducerCapMin : Nat := 0x211A00
abbrev EchoFloor : Nat := 0x211B00
abbrev TemplateStatus : Nat := 0x211C00
abbrev TransitUp (sub : Nat) : Nat := 0x212000 + sub
abbrev TransitDown (sub : Nat) : Nat := 0x212100 + sub
abbrev RxAmplitude (sub : Nat) : Nat := 0x212200 + sub
abbrev PathStatus (sub : Nat) : Nat := 0x212300 + sub
abbrev CycleStatus : Nat := 0x212400
abbrev ActualCyclePeriod : Nat := 0x212500
abbrev CycleCount : Nat := 0x212600
abbrev OverrunCount : Nat := 0x212700
abbrev ShotErrorCount (sub : Nat) : Nat := 0x212800 + sub
abbrev TransducerCapacitance (sub : Nat) : Nat := 0x212900 + sub
abbrev ChargePerCycle : Nat := 0x212A00
abbrev SampleCaptureArm : Nat := 0x213000
abbrev PathCheck : Nat := 0x213100
abbrev PathsHealthy : Nat := 0x213200
abbrev SampleCapture : Nat := 0x213300
abbrev PathLength (sub : Nat) : Nat := 0x220000 + sub
abbrev PathAxial (sub : Nat) : Nat := 0x220100 + sub
abbrev PathDelay (sub : Nat) : Nat := 0x220200 + sub
abbrev PathFactorK (sub : Nat) : Nat := 0x220300 + sub
abbrev ZeroOffset (sub : Nat) : Nat := 0x220400 + sub
abbrev PathVelocity (sub : Nat) : Nat := 0x220500 + sub
abbrev PathSpeedOfSound (sub : Nat) : Nat := 0x220600 + sub
abbrev PathVelocityMax : Nat := 0x220700
abbrev WeightsPrimary (sub : Nat) : Nat := 0x221000 + sub
abbrev WeightsFallback0 (sub : Nat) : Nat := 0x221100 + sub
abbrev WeightsFallback1 (sub : Nat) : Nat := 0x221200 + sub
abbrev WeightsFallback2 (sub : Nat) : Nat := 0x221300 + sub
abbrev WeightsFallback3 (sub : Nat) : Nat := 0x221400 + sub
abbrev FlowArea : Nat := 0x221800
abbrev PipeFactor : Nat := 0x221900
abbrev FlowCommit : Nat := 0x221A00
abbrev SegFlow (sub : Nat) : Nat := 0x222000 + sub
abbrev SegError (sub : Nat) : Nat := 0x222100 + sub
abbrev SegCount : Nat := 0x222200
abbrev LowFlowCutoff : Nat := 0x222800
abbrev ZeroAdaptFlow : Nat := 0x222900
abbrev ZeroAdaptHold : Nat := 0x222A00
abbrev ZeroAdaptShift : Nat := 0x222B00
abbrev ZeroOffsetLimit : Nat := 0x222C00
abbrev ZeroCalibrate : Nat := 0x222D00
abbrev SosTolerance : Nat := 0x223000
abbrev SosPathTolerance : Nat := 0x223100
abbrev SosMin : Nat := 0x223200
abbrev SosMax : Nat := 0x223300
abbrev SosExpected : Nat := 0x223400
abbrev GasTempConversion : Nat := 0x223800
abbrev GasBaseTemperature : Nat := 0x223900
abbrev FlowRate : Nat := 0x224000
abbrev FlowRateRaw : Nat := 0x224100
abbrev MeanVelocity : Nat := 0x224200
abbrev SpeedOfSound : Nat := 0x224300
abbrev FlowStatus : Nat := 0x224400
abbrev FlowPathExcluded : Nat := 0x224500
abbrev ActiveWeightSet : Nat := 0x224600
abbrev VolumeForward : Nat := 0x225000
abbrev VolumeReverse : Nat := 0x225100
abbrev VolumeConverted : Nat := 0x225200
abbrev UnmeasuredTime : Nat := 0x225300
abbrev FlowErrorSeconds : Nat := 0x225400
abbrev FallbackCycles : Nat := 0x225500
abbrev ReverseAlarmFlow : Nat := 0x225800
abbrev ReverseAlarmTime : Nat := 0x225900
abbrev PortRole (sub : Nat) : Nat := 0x230000 + sub
abbrev ConversionInterval : Nat := 0x230100
abbrev SensorR0 (sub : Nat) : Nat := 0x230200 + sub
abbrev CvdA (sub : Nat) : Nat := 0x230300 + sub
abbrev CvdB (sub : Nat) : Nat := 0x230400 + sub
abbrev CvdC (sub : Nat) : Nat := 0x230500 + sub
abbrev LeadResistance (sub : Nat) : Nat := 0x230600 + sub
abbrev RefResistance : Nat := 0x230700
abbrev PairOffset (sub : Nat) : Nat := 0x230800 + sub
abbrev PairSlope (sub : Nat) : Nat := 0x230900 + sub
abbrev TemperatureCommit : Nat := 0x230A00
abbrev StandbyTolerance : Nat := 0x230B00
abbrev Temperature (sub : Nat) : Nat := 0x231000 + sub
abbrev PortResistance (sub : Nat) : Nat := 0x231100 + sub
abbrev PortStatus (sub : Nat) : Nat := 0x231200 + sub
abbrev TempConversionStatus : Nat := 0x231300
abbrev LastConversionTime : Nat := 0x231400
abbrev ConversionCount : Nat := 0x231500
abbrev RefDischargeTime : Nat := 0x231600
abbrev StandbyReady : Nat := 0x231700
abbrev FlowSensorPosition : Nat := 0x240000
abbrev HeatMode : Nat := 0x240100
abbrev DeltaThetaMin : Nat := 0x240200
abbrev ChangeOverTemp : Nat := 0x240300
abbrev FluidSelect : Nat := 0x240400
abbrev HeatCommit : Nat := 0x240500
abbrev FluidAxis (sub : Nat) : Nat := 0x240800 + sub
abbrev FluidRow (sub : Nat) : Nat := 0x240900 + sub
abbrev SupplyTemperature : Nat := 0x241000
abbrev ReturnTemperature : Nat := 0x241100
abbrev DeltaTheta : Nat := 0x241200
abbrev HeatCoefficient : Nat := 0x241300
abbrev HeatPower : Nat := 0x241400
abbrev HeatStatus : Nat := 0x241500
abbrev HeatEnergy : Nat := 0x242000
abbrev CoolingEnergy : Nat := 0x242100
abbrev HeatErrorSeconds : Nat := 0x242200
abbrev ElecEnable : Nat := 0x250000
abbrev NominalVoltage : Nat := 0x250100
abbrev NominalFrequency : Nat := 0x250200
abbrev LatchCycles : Nat := 0x250300
abbrev CurrentSensor (sub : Nat) : Nat := 0x250400 + sub
abbrev VoltageScale : Nat := 0x250500
abbrev CurrentScale (sub : Nat) : Nat := 0x250600 + sub
abbrev CurrentX16Ratio (sub : Nat) : Nat := 0x250700 + sub
abbrev ChannelBMode : Nat := 0x250800
abbrev CreepThreshold : Nat := 0x250900
abbrev SagThreshold : Nat := 0x250A00
abbrev SwellThreshold : Nat := 0x250B00
abbrev InterruptThreshold : Nat := 0x250C00
abbrev VoltageHysteresis : Nat := 0x250D00
abbrev NeutralTolerance : Nat := 0x250E00
abbrev GainForce (sub : Nat) : Nat := 0x250F00 + sub
abbrev ElecSegCurrentA (sub : Nat) : Nat := 0x251000 + sub
abbrev ElecSegCurrentB (sub : Nat) : Nat := 0x251100 + sub
abbrev ElecSegGainA (sub : Nat) : Nat := 0x251200 + sub
abbrev ElecSegGainB (sub : Nat) : Nat := 0x251300 + sub
abbrev ElecSegPhaseA (sub : Nat) : Nat := 0x251400 + sub
abbrev ElecSegPhaseB (sub : Nat) : Nat := 0x251500 + sub
abbrev ElecSegCount (sub : Nat) : Nat := 0x251600 + sub
abbrev ElecCommit : Nat := 0x251800
abbrev CopSource : Nat := 0x251A00
abbrev CopReset : Nat := 0x251B00
abbrev LineFrequency : Nat := 0x252000
abbrev VoltageRms : Nat := 0x252100
abbrev CurrentRms (sub : Nat) : Nat := 0x252200 + sub
abbrev ActivePower (sub : Nat) : Nat := 0x252300 + sub
abbrev ActivePowerFund (sub : Nat) : Nat := 0x252400 + sub
abbrev ReactivePowerFund (sub : Nat) : Nat := 0x252500 + sub
abbrev ApparentPower (sub : Nat) : Nat := 0x252600 + sub
abbrev VoltageFund : Nat := 0x252700
abbrev PowerFactor (sub : Nat) : Nat := 0x252800 + sub
abbrev VoltageThd : Nat := 0x252900
abbrev CurrentGain (sub : Nat) : Nat := 0x252A00 + sub
abbrev ElecStatus : Nat := 0x252B00
abbrev ElecEnergyImport (sub : Nat) : Nat := 0x253000 + sub
abbrev ElecEnergyExport (sub : Nat) : Nat := 0x253100 + sub
abbrev ElecFundImport (sub : Nat) : Nat := 0x253200 + sub
abbrev ElecFundExport (sub : Nat) : Nat := 0x253300 + sub
abbrev VoltageEventCount (sub : Nat) : Nat := 0x253500 + sub
abbrev LastVoltageEvent : Nat := 0x253600
abbrev NoLineSeconds : Nat := 0x253700
abbrev CopInstant : Nat := 0x254000
abbrev CopCumulative : Nat := 0x254100
abbrev CopResetTime : Nat := 0x254200
abbrev PulseInputMode (sub : Nat) : Nat := 0x260000 + sub
abbrev PulseDebounce (sub : Nat) : Nat := 0x260100 + sub
abbrev PulseHoldOff (sub : Nat) : Nat := 0x260200 + sub
abbrev PulseUnit (sub : Nat) : Nat := 0x260300 + sub
abbrev PulseWeight (sub : Nat) : Nat := 0x260400 + sub
abbrev QuadratureEnable : Nat := 0x260500
abbrev WireCutInterval : Nat := 0x260600
abbrev PulseEdge (sub : Nat) : Nat := 0x260700 + sub
abbrev PulseRateFine (sub : Nat) : Nat := 0x260800 + sub
abbrev PulseCommit : Nat := 0x260900
abbrev PulseCount (sub : Nat) : Nat := 0x261000 + sub
abbrev PulseTotal (sub : Nat) : Nat := 0x261100 + sub
abbrev PulseRate (sub : Nat) : Nat := 0x261200 + sub
abbrev PulseInputStatus (sub : Nat) : Nat := 0x261300 + sub
abbrev PulseOverRateCount (sub : Nat) : Nat := 0x261400 + sub
abbrev QuadErrorCount (sub : Nat) : Nat := 0x261500 + sub
abbrev PulseOutSource (sub : Nat) : Nat := 0x262000 + sub
abbrev PulseOutConstant (sub : Nat) : Nat := 0x262100 + sub
abbrev PulseOutWidth (sub : Nat) : Nat := 0x262200 + sub
abbrev PulseOutBacklog (sub : Nat) : Nat := 0x262300 + sub
abbrev PulseOutCount (sub : Nat) : Nat := 0x262400 + sub
abbrev PulseOutBacklogLimit : Nat := 0x262500
abbrev RtcTime : Nat := 0x300000
abbrev RtcTimeSet : Nat := 0x300100
abbrev RtcTimeAdjust : Nat := 0x300200
abbrev RtcStatus : Nat := 0x300300
abbrev TrimmedTicks : Nat := 0x300400
abbrev Calendar : Nat := 0x300800
abbrev CalendarSet : Nat := 0x300900
abbrev LocalOffset : Nat := 0x300A00
abbrev LocalOffsetNext : Nat := 0x300B00
abbrev LocalOffsetChangeTime : Nat := 0x300C00
abbrev Weekday : Nat := 0x300D00
abbrev AlarmSetting (sub : Nat) : Nat := 0x301000 + sub
abbrev AlarmFlags : Nat := 0x301100
abbrev PeriodicWake : Nat := 0x301200
abbrev PeriodicWakeCount : Nat := 0x301300
abbrev RtcRateTrim : Nat := 0x301800
abbrev RtcAgeingTrim : Nat := 0x301900
abbrev LfAgeingRate : Nat := 0x301A00
abbrev RtcLoopTrim : Nat := 0x301B00
abbrev RtcTotalTrim : Nat := 0x301C00
abbrev TimeSourceEnable : Nat := 0x302000
abbrev SlewLimit : Nat := 0x302100
abbrev SlewRate : Nat := 0x302200
abbrev LoopStepPerDay : Nat := 0x302300
abbrev LoopTrimLimit : Nat := 0x302400
abbrev TrimRejectLimit : Nat := 0x302500
abbrev TrimWindowMin : Nat := 0x302600
abbrev MainsWindow : Nat := 0x302700
abbrev HoldoverLimit : Nat := 0x302800
abbrev LastReferenceTime : Nat := 0x302900
abbrev LastReferenceOffset : Nat := 0x302A00
abbrev LastRateError : Nat := 0x302B00
abbrev ReferenceSource : Nat := 0x302C00
abbrev LastStepSize : Nat := 0x303000
abbrev StepCount : Nat := 0x303100
abbrev BackupBytes : Nat := 0x304000
abbrev TallyLatchCycles : Nat := 0x310000
abbrev LatchJournalInterval : Nat := 0x310100
abbrev LatchNow : Nat := 0x310200
abbrev LatchSequence : Nat := 0x310300
abbrev LatchedRegisters : Nat := 0x310400
abbrev UptimeSeconds : Nat := 0x310500
abbrev TariffRegister (sub : Nat) : Nat := 0x311000 + sub
abbrev TariffQuantity (sub : Nat) : Nat := 0x311100 + sub
abbrev TariffCondition (sub : Nat) : Nat := 0x311200 + sub
abbrev TariffThreshold (sub : Nat) : Nat := 0x311300 + sub
abbrev TariffWindow (sub : Nat) : Nat := 0x311400 + sub
abbrev TariffCommit : Nat := 0x311500
abbrev TariffActive : Nat := 0x311600
abbrev DailyBoundaryTime : Nat := 0x312000
abbrev BillingDay : Nat := 0x312100
abbrev DailyRegisters : Nat := 0x312200
abbrev BillingSelect : Nat := 0x312300
abbrev BillingRecord : Nat := 0x312400
abbrev BillingNewest (sub : Nat) : Nat := 0x312500 + sub
abbrev LastBoundaryId (sub : Nat) : Nat := 0x312600 + sub
abbrev IntervalPeriod : Nat := 0x313000
abbrev IntervalQuantity (sub : Nat) : Nat := 0x313100 + sub
abbrev IntervalSelect : Nat := 0x313200
abbrev IntervalWindow : Nat := 0x313300
abbrev IntervalCount : Nat := 0x313400
abbrev IntervalOldest : Nat := 0x313500
abbrev NoonPassTime : Nat := 0x314000
abbrev LastNoonPass : Nat := 0x314100
abbrev EventCount : Nat := 0x700000
abbrev EventOldest : Nat := 0x700100
abbrev EventSelect : Nat := 0x700200
abbrev EventWindow : Nat := 0x700300
abbrev EventsLost : Nat := 0x700400
abbrev ErrorFlags : Nat := 0x700800
abbrev ErrorFlagsSticky : Nat := 0x700900
abbrev ErrorSelect : Nat := 0x700A00
abbrev ErrorWindow : Nat := 0x700B00
abbrev IrqEnable : Nat := 0x701000
abbrev IrqStatus : Nat := 0x701100
abbrev LysefShortAddress : Nat := 0x500000
abbrev LysefNew : Nat := 0x500100
abbrev LysefCellRateSeen : Nat := 0x500200
abbrev LysefFrameErrors : Nat := 0x500300
abbrev LysefBreakCount : Nat := 0x500400
abbrev LysefMasterEnable : Nat := 0x501000
abbrev LysefCellRate : Nat := 0x501100
abbrev LysefSearch : Nat := 0x501200
abbrev LysefNewPoll : Nat := 0x501300
abbrev LysefTimeInterval : Nat := 0x501400
abbrev LysefBreakDefer : Nat := 0x501500
abbrev LsnsGain : Nat := 0x501600
abbrev LsnsThreshold : Nat := 0x501700
abbrev LysefSegmentCount : Nat := 0x501800
abbrev LysefSearchStatus : Nat := 0x501900
abbrev LysefBranchEmptyCount : Nat := 0x501A00
abbrev LysefMasterSend : Nat := 0x501B00
abbrev LysefMasterResult : Nat := 0x501C00
abbrev LysefLostLimit : Nat := 0x501D00
abbrev SpiTurnaround : Nat := 0x510000
abbrev SpiFrameErrors : Nat := 0x510100
abbrev VicinityEnable : Nat := 0x511000
abbrev VicinityUid : Nat := 0x511100
abbrev NfcTuneCap : Nat := 0x511200
abbrev VicinityFrameErrors : Nat := 0x511300
abbrev VicinityFieldCount : Nat := 0x511400
abbrev VicinityWriteCuts : Nat := 0x511500
abbrev RadioBand : Nat := 0x520000
abbrev GroveRole : Nat := 0x520100
abbrev TxPowerMax : Nat := 0x520200
abbrev PaGain : Nat := 0x520300
abbrev PaLeadTime : Nat := 0x520400
abbrev ChannelMap : Nat := 0x520500
abbrev MapFirstChannel : Nat := 0x520600
abbrev AdvChannel (sub : Nat) : Nat := 0x520700 + sub
abbrev InstallerChannel : Nat := 0x520800
abbrev GlanceInterval : Nat := 0x520900
abbrev GlanceThreshold : Nat := 0x520A00
abbrev RadioCommit : Nat := 0x520B00
abbrev LinkMarginTarget : Nat := 0x520C00
abbrev RetryLimit : Nat := 0x520D00
abbrev EventMaxTime : Nat := 0x520E00
abbrev BandEntry (sub : Nat) : Nat := 0x521000 + sub
abbrev DwellPeriod : Nat := 0x521100
abbrev BandAirtimeUsed (sub : Nat) : Nat := 0x521200 + sub
abbrev LbtThreshold : Nat := 0x521300
abbrev LbtListen : Nat := 0x521400
abbrev TxClassTtl (sub : Nat) : Nat := 0x521800 + sub
abbrev TelegramRegisters : Nat := 0x521900
abbrev TelegramInterval : Nat := 0x521A00
abbrev AlarmMask : Nat := 0x521B00
abbrev TxDropCount (sub : Nat) : Nat := 0x522000 + sub
abbrev RxDropCount (sub : Nat) : Nat := 0x522100 + sub
abbrev RadioStatus : Nat := 0x522200
abbrev TxAirtimeTotal : Nat := 0x522300
abbrev RadioSca : Nat := 0x522400
abbrev FalseWakeCount : Nat := 0x522500
abbrev GroveNetworkKey : Nat := 0x523000
abbrev WmbusKey : Nat := 0x523100
abbrev InstallCounter : Nat := 0x523200
abbrev CompatMode : Nat := 0x523800
abbrev CompatBidirectional : Nat := 0x523900
abbrev CompatSecurity : Nat := 0x523A00
abbrev CompatInterval : Nat := 0x523B00
abbrev WmbusManufacturer : Nat := 0x523C00
abbrev WmbusId : Nat := 0x523D00
abbrev WmbusDeviceType : Nat := 0x523E00
abbrev WmbusVersion : Nat := 0x523F00
abbrev CompatNChannel : Nat := 0x524000
abbrev CompatAccessNumber : Nat := 0x524100
abbrev GroveId : Nat := 0x530000
abbrev ConnInterval : Nat := 0x530100
abbrev SlotTime : Nat := 0x530200
abbrev SupervisionTimeout : Nat := 0x530300
abbrev BeaconInterval : Nat := 0x530400
abbrev GroveTimeInterval : Nat := 0x530500
abbrev GroveJoinKey : Nat := 0x530600
abbrev GroveCrownIdentity : Nat := 0x530700
abbrev GroveShortId : Nat := 0x530800
abbrev GroveLinkState : Nat := 0x530900
abbrev RejoinBackoffMax : Nat := 0x530A00
abbrev StemAdmit : Nat := 0x531000
abbrev StemRemove : Nat := 0x531100
abbrev GroveMapUpdate : Nat := 0x531200
abbrev StemSelect : Nat := 0x531300
abbrev StemEntry : Nat := 0x531400
abbrev StemSnapshot : Nat := 0x531500
abbrev StemCount : Nat := 0x531600
abbrev ConnUpdate : Nat := 0x531800
abbrev GroveSend : Nat := 0x532000
abbrev GroveResult : Nat := 0x532100
abbrev MailboxOut : Nat := 0x532800
abbrev MailboxIn : Nat := 0x532900
abbrev MailboxPop : Nat := 0x532A00
abbrev MailboxDepth : Nat := 0x532B00
abbrev GroveNeighbour (sub : Nat) : Nat := 0x533000 + sub
abbrev MarginSummary : Nat := 0x600000
abbrev SramSpareRows : Nat := 0x600100
abbrev SramRowsRepaired : Nat := 0x600200
abbrev ServiceCount : Nat := 0x600800
abbrev LastServiceTime : Nat := 0x600900
abbrev TransducerReplace : Nat := 0x601000
abbrev PathInService : Nat := 0x601100
abbrev ServiceDelayLimit : Nat := 0x601200
abbrev ServiceStatus : Nat := 0x601300
abbrev SensorReplace : Nat := 0x601800

end Sys2Proof.Machine.Obj
end

