-- ==== Sys2Proof/Machine/Routes.lean ====
section
/-! DEFINITION. Numbers and names of routes, ports and requesters (R144, R188, Tables 07.1 and 04.1). -/

namespace Sys2Proof

/-- Number of a route: host ports 1 to 3, Grove peer p at 4 + p. -/
def Route.num (r : Route) : Nat :=
  match r with
  | .spi => 1
  | .lysef => 2
  | .vicinity => 3
  | .grove p => 4 + p

/-- Route code of R144. -/
def Route.code (r : Route) : Nat :=
  match r with
  | .spi => 1
  | .lysef => 2
  | .vicinity => 3
  | .grove _ => 4

/-- The route slot of an open sequence: 1 to 3 the host ports, 4 the Grove link (R188). -/
def Route.slot (r : Route) : Nat :=
  match r with
  | .grove _ => 4
  | _ => r.num

/-- Sub-index of a requester (Table 07.1). -/
def Requester.sub (q : Requester) : Nat :=
  match q with
  | .spi => 1
  | .lysef => 2
  | .vicinity => 3
  | .mac => 4
  | .tally => 5
  | .repair => 6

/-- The requesters in sub order. -/
def Requester.list : List Requester := [.spi, .lysef, .vicinity, .mac, .tally, .repair]

/-- Reserved tags (Table 07.1). -/
def Requester.reserved (q : Requester) : Nat :=
  match q with
  | .tally => 2
  | .repair => 1
  | _ => 0

/-- Rank in the fixed order of R228, lowest first. -/
def Requester.rank (q : Requester) : Nat :=
  match q with
  | .tally => 0
  | .repair => 1
  | .mac => 2
  | .spi => 3
  | .lysef => 4
  | .vicinity => 5

/-- Place of a requester in the order in which full queues drain (R253): tally engine, repair agent, radio MAC, host ports. -/
def Requester.drainRank (q : Requester) : Nat :=
  match q with
  | .tally => 0
  | .repair => 1
  | .mac => 2
  | _ => 3

/-- The requester a route asks through. -/
def Route.requester (r : Route) : Requester :=
  match r with
  | .spi => .spi
  | .lysef => .lysef
  | .vicinity => .vicinity
  | .grove _ => .mac

/-- The host route of a requester that is a host port. -/
def Requester.host (q : Requester) : Option Route :=
  match q with
  | .spi => some .spi
  | .lysef => some .lysef
  | .vicinity => some .vicinity
  | _ => none

/-- The route of a port. -/
def Port.route (p : Port) : Route :=
  match p with
  | .spi => .spi
  | .lysef => .lysef
  | .vicinity => .vicinity

end Sys2Proof
end

