-- ==== Sys2Proof/Machine/Ops.lean ====
section
/-! DEFINITION. The named operations every meaning is written over: objects, time, events, the journal queue, the transmit queue. -/

namespace Sys2Proof.Machine

/-- What a command answers. -/
abbrev Res := Host.Outcome State Fault Refusal

/-- Active value of an object, raw (its image value, else its default). -/
def obj (s : State) (k : Nat) : Nat := (mfind s.img k).getD (dfltOf s.code k)

/-- Put a value into an image in canonical form: the image lists no value equal to the default. -/
def putImage (c : OrderCode) (m : NMap Nat) (k v : Nat) : NMap Nat := if v = dfltOf c k then mdel m k else mset m k v

/-- Set an object's active value. -/
def setObj (s : State) (k v : Nat) : State := { s with img := putImage s.code s.img k v }

/-- Active value of a signed object of n bytes. -/
def objI (n : Nat) (s : State) (k : Nat) : Int := toInt n (obj s k)

/-- Set a signed object of n bytes. -/
def setI (n : Nat) (s : State) (k : Nat) (v : Int) : State := setObj s k (ofInt n v)

/-- Advance a U32 count by one. -/
def bump (s : State) (k : Nat) : State := setObj s k ((obj s k + 1) % 2 ^ 32)

/-- Set or clear a bit of an object. -/
def objBit (s : State) (k i : Nat) (b : Bool) : State := setObj s k (putBit (obj s k) i b)

/-- Read a bit of an object. -/
def getBit (s : State) (k i : Nat) : Bool := bitOf (obj s k) i

/-- Set several objects in order. -/
def setMany (s : State) (l : List (Nat × Nat)) : State := l.foldl (fun t e => setObj t e.1 e.2) s

/-- A step that answers a next state. -/
def ok (s : State) : Res := .next s

/-- A step that acts where its condition holds and leaves the state where the event cannot arise (log entry 4). -/
def when (c : Bool) (s : State) (f : State → State) : Res := .next (if c then f s else s)

/-- Is the part in full mode? -/
def isFull (s : State) : Bool := decide (s.pw.mode = .full)

/-- Does the core run (any mode in which frames are executed)? -/
def coreUp (s : State) : Bool := s.pw.storeOpen

/-- Trimmed ticks, 1/32768 s (R428). -/
def ticks (s : State) : Nat := s.rtc.tk / 2 ^ 33

/-- The uptime stamp (R464). -/
def uptime (s : State) : Nat := ticks s / 32768 % 2 ^ 32

/-- Binary time as T48F16. -/
def t48 (s : State) : Nat := s.rtc.bin / 2 ^ 32 % 2 ^ 64

/-- Binary seconds. -/
def binSecs (s : State) : Nat := s.rtc.bin / 2 ^ 48

/-- Local seconds (R431). -/
def localSecs (s : State) : Int := (binSecs s : Int) + 900 * objI 1 s Obj.LocalOffset

/-- Local days since 2000-01-01. -/
def localDay (s : State) : Int := localSecs s / 86400

/-- Local minute of day. -/
def localMinute (s : State) : Int := localSecs s % 86400 / 60

/-- A fresh free value (log entry 5). -/
def draw (s : State) : Nat × State := (Config.freeValue s.free, { s with free := s.free + 1 })

/-- A work-pending flag is set: CCLK starts on the RC when it is stopped (R111), in any mode in which the core is powered. -/
def startCclk (s : State) : State :=
  if s.clk.cclk = .stopped ∧ s.pw.storeOpen then { s with clk := { s.clk with cclk := .rc } } else s

/-- A value for a signed n-byte object: the value where it fits, else a free value, for the manual gives none (log entry 8). -/
def fitI (n site : Nat) (v : Int) : Nat :=
  if -(2 ^ (8 * n - 1) : Int) ≤ v ∧ v < 2 ^ (8 * n - 1) then ofInt n v else ofInt n (Config.freeResult site v)

/-- A value for an unsigned n-byte object: the value where it fits, else a free value (log entry 8). -/
def fitN (n site : Nat) (v : Int) : Nat :=
  if 0 ≤ v ∧ v < 2 ^ (8 * n) then v.toNat else ofInt n (Config.freeResult site v)

/-- Set an IrqStatus bit (R482). -/
def irq (s : State) (bit : Nat) : State := objBit s Obj.IrqStatus bit true

/-- Does the XQ40 drive nIRQ low (R482)? The pad is Z in chip reset, before the core starts, and while TEST holds the part (Table 02.2, R60). -/
def nIrqLow (s : State) : Bool :=
  s.ports.vioOk && s.pw.storeOpen && decide (Nat.land (obj s Obj.IrqStatus) (obj s Obj.IrqEnable) ≠ 0)

/-- Tally register numbers present on the ordering code (R461). -/
def regPresent (c : OrderCode) (n : Nat) : Bool :=
  if n = 0x03 then decide (c = .gs)
  else if n = 0x04 ∨ n = 0x05 ∨ n = 0x1C then decide (c ≠ .gs)
  else if 0x0A ≤ n ∧ n ≤ 0x11 then decide (c = .le)
  else decide (1 ≤ n) && decide (n ≤ 0x1C)

/-- Object of a tally register (Table 14.1). -/
def regKey (n : Nat) : Nat :=
  if n = 0x01 then Obj.VolumeForward
  else if n = 0x02 then Obj.VolumeReverse
  else if n = 0x03 then Obj.VolumeConverted
  else if n = 0x04 then Obj.HeatEnergy
  else if n = 0x05 then Obj.CoolingEnergy
  else if n ≤ 0x09 then Obj.TariffRegister (n - 5)
  else if n ≤ 0x0B then Obj.ElecEnergyImport (n - 9)
  else if n ≤ 0x0D then Obj.ElecEnergyExport (n - 0x0B)
  else if n ≤ 0x0F then Obj.ElecFundImport (n - 0x0D)
  else if n ≤ 0x11 then Obj.ElecFundExport (n - 0x0F)
  else if n ≤ 0x15 then Obj.PulseCount (n - 0x11)
  else if n ≤ 0x19 then Obj.PulseTotal (n - 0x15)
  else if n = 0x1A then Obj.UnmeasuredTime
  else if n = 0x1B then Obj.FlowErrorSeconds
  else Obj.HeatErrorSeconds

/-- The register numbers present, ascending. -/
def regNumbers (c : OrderCode) : List Nat := ((List.range 28).map (· + 1)).filter (regPresent c)

/-- Mask of a list of register numbers (R461). -/
def maskOf (l : List Nat) : Nat := l.foldl (fun m n => putBit m (n - 1) true) 0

/-- The registers of a mask that are present, with their values. -/
def regsOf (s : State) (mask : Nat) : NMap Nat :=
  ((regNumbers s.code).filter (fun n => bitOf mask (n - 1))).map (fun n => (n, obj s (regKey n)))

/-- Every register present, with its value. -/
def allRegs (s : State) : NMap Nat := (regNumbers s.code).map (fun n => (n, obj s (regKey n)))

/-- U64 values in ascending register number. -/
def regBytes (l : NMap Nat) : List Byte := l.flatMap (fun e => bytesOf 8 e.2)

/-- Queue a frame for the radio (R598), whole form. -/
def enqueueEntry (s : State) (cls peer control : Nat) (payload : List Byte) (chan : Option Nat) (train : Bool) : State :=
  if 8 ≤ s.radio.txq.length then bump s (Obj.TxDropCount 1)
  else
    let t := startCclk s
    { t with radio := { t.radio with
          txq := s.radio.txq ++ [⟨s.radio.nextId, cls, peer, control, payload, ticks s, chan, train⟩], nextId := s.radio.nextId + 1 } }

/-- Queue a frame for a peer's next event (R598): class, peer, control byte, payload. -/
def enqueueTx (s : State) (cls peer control : Nat) (payload : List Byte) : State := enqueueEntry s cls peer control payload none false

/-- `PowerMode` (Table 03.9). -/
def powerMode (s : State) : Nat :=
  match s.pw.mode with
  | .full => 0
  | .readout => 1
  | .transport => 2
  | _ => 3

/-- Payload of a telegram, subtype byte included (Table 17.6). -/
def telegramBytes (s : State) : List Byte :=
  let regs := regsOf s (obj s Obj.TelegramRegisters)
  [0x03] ++ bytesOf 4 (obj s Obj.LatchSequence) ++ bytesOf 4 s.tally.latchUptime ++ bytesOf 1 (obj s Obj.StoreStage)
    ++ bytesOf 1 (powerMode s) ++ bytesOf 4 (obj s Obj.ErrorFlags) ++ bytesOf 4 (maskOf (regs.map (·.1))) ++ regBytes regs

/-- DATA with ACK_REQ and SECURED (Table 17.4). -/
def dataControl : Nat := 0x4C

/-- A class 1 telegram, at most one per 60 s (R570); only a stem has a peer to send it to (log entry 11). -/
def alarmTelegram (s : State) : State :=
  let quiet : Bool := match s.radio.alarmTick with
    | none => true
    | some t => decide (t + 60 * 32768 ≤ ticks s)
  if decide (obj s Obj.GroveRole = 1) && quiet && isFull s then
    let t := enqueueTx s 1 0 dataControl (telegramBytes s)
    { t with radio := { t.radio with alarmTick := some (ticks s) } }
  else s

/-- Put an event into the event queue, which sets a work-pending flag (R485, R492, R111): discarded and counted when the queue is full or the store is read-only. -/
def queueEvent (s : State) (e : Event) : State :=
  if 16 ≤ s.tally.eventQ.length ∨ obj s Obj.StoreStage = 2 then
    let t := bump s Obj.EventsLost
    { t with tally := { t.tally with lost := t.tally.lost + 1 } }
  else
    let t := startCclk s
    { t with tally := { t.tally with eventQ := s.tally.eventQ ++ [e] } }

/-- Set an `ErrorFlags` bit (R481), with its sticky bit, IrqStatus bit [0] and the alarm telegram of R570. -/
def setErr (s : State) (bit : Nat) : State :=
  if getBit s Obj.ErrorFlags bit then objBit s Obj.ErrorFlagsSticky bit true
  else
    let t := irq (objBit (objBit s Obj.ErrorFlags bit true) Obj.ErrorFlagsSticky bit true) 0
    if getBit t Obj.AlarmMask bit then alarmTelegram t else t

/-- Clear an `ErrorFlags` bit (R481). -/
def clrErr (s : State) (bit : Nat) : State :=
  if getBit s Obj.ErrorFlags bit then irq (objBit s Obj.ErrorFlags bit false) 0 else s

/-- The paths, ports and inputs, by sub-index. -/
def subs4 : List Nat := [1, 2, 3, 4]

/-- Is any path FAILED, OPEN or SHORT (Table 14.7, bit [4])? -/
def anyPathFailed (s : State) : Bool := subs4.any (fun p => getBit s (Obj.PathStatus p) 6)

/-- Is any port OPEN or SHORT, or the reference faulty (Table 14.7, bit [3])? -/
def anySensorFault (s : State) : Bool :=
  subs4.any (fun p => getBit s (Obj.PortStatus p) 1 || getBit s (Obj.PortStatus p) 2) || getBit s Obj.TempConversionStatus 0

/-- The `ErrorFlags` bit an event sets (Table 14.7). -/
def errSetBy (code : Nat) : Option Nat :=
  match code with
  | 0x2204 => some 0
  | 0x2202 => some 1
  | 0x2401 => some 2
  | 0x2301 => some 3
  | 0x2302 => some 3
  | 0x2304 => some 3
  | 0x2105 => some 4
  | 0x2103 => some 4
  | 0x2104 => some 4
  | 0x4002 => some 5
  | 0x4003 => some 5
  | 0x3003 => some 6
  | 0x1102 => some 7
  | 0x2504 => some 8
  | 0x2601 => some 9
  | 0x2003 => some 10
  | 0x2004 => some 10
  | 0x1016 => some 11
  | 0x2208 => some 12
  | 0x1105 => some 13
  | _ => none

/-- The `ErrorFlags` bit an event clears, with the condition Table 14.7 adds. -/
def errClearedBy (s : State) (code : Nat) : Option Nat :=
  match code with
  | 0x2205 => some 0
  | 0x2203 => some 1
  | 0x2402 => some 2
  | 0x2309 => if anySensorFault s then none else some 3
  | 0x2106 => if anyPathFailed s then none else some 4
  | 0x3004 => some 6
  | 0x2505 => some 8
  | 0x2602 => if subs4.any (fun p => getBit s (Obj.PulseInputStatus p) 1) then none else some 9
  | _ => none

/-- Raise an event with the binary time and its payload (Table 14.6), and let it move `ErrorFlags` (R481). -/
def raiseAt (s : State) (code time : Nat) (payload : List Nat) : State :=
  let t := queueEvent s ⟨code, time, payload⟩
  let u := match errSetBy code with
    | some b => setErr t b
    | none => t
  match errClearedBy u code with
  | some b => clrErr u b
  | none => u

/-- Raise an event now. -/
def raise (s : State) (code : Nat) (payload : List Nat := []) : State := raiseAt s code (t48 s) payload

/-- Payload bytes of a number. -/
def pl (n v : Nat) : List Nat := (bytesOf n v).map BitVec.toNat

/-- Log an event at most once per `secs` seconds of uptime for a key (the "at most once per …" rules). -/
def raiseOnce (s : State) (key secs code : Nat) (payload : List Nat) : State :=
  let again : Bool := match mfind s.radio.lastLog key with
    | none => true
    | some t => decide (t + secs * 32768 ≤ ticks s)
  if again then raise { s with radio := { s.radio with lastLog := mset s.radio.lastLog key (ticks s) } } code payload else s

/-- Is the object's value journalled when written (R161; log entry 12)? -/
def journals (k : Nat) : Bool :=
  !([Obj.ArbiterFreeze, Obj.BackupBytes, Obj.AlarmFlags, Obj.IrqStatus, Obj.AuthResponse].contains k)

/-- Bytes of a DATA entry (Table 06.5). -/
def entryBytes (e : Nat × Nat) : List Byte :=
  let n := match rowOf e.1 with
    | some d => d.size
    | none => 8
  bytesOf 2 (e.1 / 256) ++ bytesOf 1 (e.1 % 256) ++ bytesOf 1 (n % 256) ++ bytesOf n e.2

/-- Bytes of a DATA payload (Table 06.5). -/
def dataBytes (l : List (Nat × Nat)) : List Byte := l.flatMap entryBytes

/-- Cut entries into parts of at most 264 payload bytes (R194). -/
def cutParts (cur : List (Nat × Nat)) (l : List (Nat × Nat)) : List (List (Nat × Nat)) :=
  match l with
  | [] => [cur]
  | e :: t =>
    if cur ≠ [] ∧ 264 < (dataBytes (cur ++ [e])).length then cur :: cutParts [e] t else cutParts (cur ++ [e]) t

/-- Records of one DATA transaction (R194): consecutive parts, only the last with FINAL. -/
def dataRecs (txn : Nat) (l : List (Nat × Nat)) : List Rec :=
  let ps := cutParts [] l
  (ps.zip (List.range ps.length)).map (fun (p, i) => ⟨txn, i, decide (i + 1 = ps.length), .data p, []⟩)

/-- Payload bytes of a record (Table 06.5). A LATCH payload is that of Table 14.2; the field widths of UNIT_STATE (1, 2, 2, 4) and
CHECKPOINT (4, 4) are the model's (DESIGN CHOICE, log entry 81). -/
def payloadBytes (p : Payload) : List Byte :=
  match p with
  | .data l => dataBytes l
  | .latch l => bytesOf 4 l.seq ++ bytesOf 3 l.daily ++ bytesOf 1 l.flags ++ bytesOf 4 (maskOf (l.regs.map (·.1))) ++ bytesOf 4 l.uptime ++ regBytes l.regs
  | .unitState a l u c => bytesOf 1 a ++ bytesOf 2 l ++ bytesOf 2 u ++ bytesOf 4 c
  | .checkpoint t g => bytesOf 4 t ++ bytesOf 4 g

/-- Type byte of a record (Table 06.5). -/
def recType (p : Payload) : Nat :=
  match p with
  | .data _ => 0x01
  | .latch _ => 0x02
  | .unitState _ _ _ _ => 0x04
  | .checkpoint _ _ => 0x05

/-- Payload words of a record (Table 06.4). -/
def recWords (r : Rec) : Nat :=
  match r.payload with
  | .data l => ceilDiv (dataBytes l).length 8
  | .latch l => ceilDiv (16 + 8 * l.regs.length) 8
  | .unitState _ _ _ _ => 2
  | .checkpoint _ _ => 1

/-- n words of 8 bytes, most significant byte first, padded with 0x00. -/
def wordsOf (n : Nat) (b : List Byte) : List Nat :=
  match n with
  | 0 => []
  | k + 1 => natOf (padTo 8 0 (b.take 8)) :: wordsOf k (b.drop 8)

/-- Header word of a record (Table 06.4). -/
def recHeader (r : Rec) : Nat :=
  recType r.payload * 2 ^ 56 + ((if r.final then 0x80 else 0) + r.part % 128) * 2 ^ 48 + (payloadBytes r.payload).length % 2 ^ 16 * 2 ^ 32 + r.txn % 2 ^ 32

/-- CRC word of a record (Table 06.4): CRC-32 over header and padded payload, and the complement of the transaction number. -/
def recCrc (r : Rec) : Nat :=
  crc32 (bytesOf 8 (recHeader r) ++ padTo (8 * recWords r) 0 (payloadBytes r.payload)) * 2 ^ 32 + (2 ^ 32 - 1 - r.txn % 2 ^ 32)

/-- Commit word of a record (Table 06.4). -/
def recCommit (r : Rec) : Nat := 0xC0A17E55 * 2 ^ 32 + r.txn % 2 ^ 32

/-- The words of a record in the order they are programmed (R192): the commit word last. -/
def recordWords (r : Rec) : List Nat := recHeader r :: wordsOf (recWords r) (payloadBytes r.payload) ++ [recCrc r, recCommit r]

/-- Does a record in flash carry its commit word? -/
def commitValid (r : Rec) : Bool := decide (r.words.length = recWords r + 3) && decide (r.words.getLast? = some (recCommit r))

/-- Do a record's CRC and the complement in its CRC word match (R219)? -/
def recGood (r : Rec) : Bool := decide (r.words[recWords r + 1]? = some (recCrc r))

/-- What an unlisted unit reads as: units 0 to 191 serve the logical unit of their number, 192 to 203 are spares; erased, count 0 (Table 06.2). -/
def unitDflt (u : Nat) : Unit :=
  ⟨if u < 192 then some u else none, 0, 0, .free, 0, [], none, 0, false⟩

/-- A physical unit. -/
def unit (s : State) (u : Nat) : Unit := mget s.flash.units u (unitDflt u)

/-- Store a physical unit. -/
def setUnit (s : State) (u : Nat) (x : Unit) : State := { s with flash := { s.flash with units := mset s.flash.units u x } }

/-- Physical units of a range of logical units, ascending by logical unit. -/
def unitsOf (s : State) (lo hi : Nat) : List Nat :=
  ((List.range (hi - lo + 1)).map (· + lo)).filterMap (fun l => (List.range 204).find? (fun u => (unit s u).logical = some l))

/-- The unit of a ring opened last: greatest generation, then greatest position, among those not free. -/
def newestIn (s : State) (us : List Nat) : Option Nat :=
  us.foldl (fun b u =>
    if (unit s u).st = .free then b
    else match b with
      | none => some u
      | some v => if (unit s v).generation ≤ (unit s u).generation then some u else some v) none

/-- Can a free unit of a ring take w words? A half-erased one is erased again before use (R223). -/
def canOpen (s : State) (w u : Nat) : Bool := decide ((unit s u).st = .free) && !(unit s u).half && decide ((unit s u).used + w ≤ 500)

/-- The next free unit of a ring after the one opened last, with the ring pass it begins or goes on (R191). -/
def ringFree (s : State) (us : List Nat) (w : Nat) : Option (Nat × Nat) :=
  let es := us.filter (canOpen s w)
  match newestIn s us with
  | none => es.head?.map (fun u => (u, 1))
  | some n =>
    match es.find? (fun u => decide ((unit s n).logical.getD 0 < (unit s u).logical.getD 0)) with
    | some u => some (u, (unit s n).generation)
    | none => es.head?.map (fun u => (u, (unit s n).generation + 1))

/-- The unit of a ring that takes w words, with its generation: the open one with room, else the next free one. -/
def ringUnit (s : State) (us : List Nat) (w : Nat) : Option (Nat × Nat) :=
  match us.find? (fun u => decide ((unit s u).st = .opened) && !(unit s u).half && decide ((unit s u).used + w ≤ 500)) with
  | some u => some (u, (unit s u).generation)
  | none => ringFree s us w

/-- Take w words in a ring: the unit they go to is open, any other open one is closed first. -/
def takeSpace (s : State) (us : List Nat) (w : Nat) : Option (State × Nat) :=
  match ringUnit s us w with
  | none => none
  | some (u, g) =>
    let t := us.foldl (fun a v => if v ≠ u ∧ (unit a v).st = .opened then setUnit a v { unit a v with st := .full } else a) s
    some (setUnit t u { unit t u with st := .opened, generation := g, used := (unit t u).used + w }, u)

/-- The units of the journal ring, in logical order. -/
def journalUnits (s : State) : List Nat := unitsOf s 8 39

/-- The journal unit the next record of so many words goes to: the open one with room, else the next erased one, else none. -/
def journalUnit (s : State) (words : Nat) : Option Nat := (ringUnit s (journalUnits s) words).map (·.1)

/-- Program a whole record into the journal ring (header, payload, CRC and commit word: R192). -/
def programRec (s : State) (r : Rec) : Option State :=
  (takeSpace s (journalUnits s) (recWords r + 3)).map (fun (t, u) =>
    setUnit t u { unit t u with recs := (unit t u).recs ++ [{ r with words := recordWords r }] })

/-- Compare transaction numbers modulo 2³² (R195). -/
def txnAfter (a b : Nat) : Bool := decide (0 < (a + 2 ^ 32 - b) % 2 ^ 32) && decide ((a + 2 ^ 32 - b) % 2 ^ 32 < 2 ^ 31)

/-- Take the next transaction number (R194, R224). -/
def takeTxn (s : State) : Nat × State := (s.flash.nextTxn, { s with flash := { s.flash with nextTxn := (s.flash.nextTxn + 1) % 2 ^ 32 } })

/-- The RWC block that owns an object (R140). -/
def blockOf (k : Nat) : Option Block :=
  match rowOf k with
  | some d => d.block
  | none => none

/-- Is the pending set of a block committed and waiting for its instant? -/
def pendingOf (s : State) (b : Block) : Bool := s.pendBlocks.contains b

/-- Value of an RWC object as the commit checks see it: its shadow, else its pending value, else its active value. -/
def objNext (s : State) (k : Nat) : Nat := (mfind s.shadow k).getD ((mfind s.pend k).getD (obj s k))

/-- Give the journal the absolute values of entries in one transaction (R159, R194): its records join the staged commits. Answers the transaction number,
0 when nothing is journalled (R161). An access in readout mode programs them before it applies anything (R202: `Sys2Proof.Machine.storeRun`). -/
def journal (s : State) (l : List (Nat × Nat)) : Nat × State :=
  let es := l.filter (fun e => journals e.1)
  if es = [] ∨ obj s Obj.StoreStage = 2 then (0, s)
  else
    let (n, t) := takeTxn (startCclk s)
    (n, { t with flash := { t.flash with commits := t.flash.commits ++ dataRecs n es } })

/-- Apply a block's pending set at its instant, and journal the applied values in a transaction of their own (R140). -/
def applyPend (s : State) (b : Block) : State :=
  let es := s.pend.filter (fun e => blockOf e.1 == some b)
  let t := (journal (setMany s es) es).2
  { t with pend := s.pend.filter (fun e => !(blockOf e.1 == some b)), pendBlocks := s.pendBlocks.filter (· ≠ b) }

/-- Set objects and journal them in one transaction. -/
def commitObjs (s : State) (l : List (Nat × Nat)) : Nat × State := journal (setMany s l) l

/-- `SealBreakCount` is journalled, so `SealState` changes (R154, R156). -/
def finishBreak (s : State) : State :=
  raise (commitObjs { s with flash := { s.flash with breakTxn := none } } [(Obj.SealState, 2)]).2 0x1014

/-- A record with its commit word stands: a FINAL part makes its transaction durable (R161); the one a seal break waits for lets it go on. -/
def madeDurable (s : State) (r : Rec) : State :=
  let t := if r.final && txnAfter r.txn (obj s Obj.LastCommittedTxn) then setObj s Obj.LastCommittedTxn r.txn else s
  if r.final && decide (t.flash.breakTxn = some r.txn) then finishBreak t else t

end Sys2Proof.Machine
end

