-- ==== Sys2Proof/Machine/Tally.lean ====
section
/-! DEFINITION. The tally engine (chapter 14): calendar arithmetic, latches, tariffs, pulse-output owing, boundaries, interval entries. -/

namespace Sys2Proof.Machine

/-- Year, month and day of a day number from 2000-01-01, Gregorian (R431). -/
def civil (d : Nat) : Nat × Nat × Nat :=
  let z := d + 146037
  let doe := z % 146097
  let yoe := (doe - doe / 1460 + doe / 36524 - doe / 146096) / 365
  let doy := doe - (365 * yoe + yoe / 4 - yoe / 100)
  let mp := (5 * doy + 2) / 153
  let m := if mp < 10 then mp + 3 else mp - 9
  (yoe + z / 146097 * 400 + 1600 + (if m ≤ 2 then 1 else 0), m, doy - (153 * mp + 2) / 5 + 1)

/-- Day number from 2000-01-01 of a date from the year 2000 on. -/
def dayNumber (y m d : Nat) : Nat :=
  let y' := if m ≤ 2 then y - 1 else y
  let mp := if m ≤ 2 then m + 9 else m - 3
  let yoe := y' % 400
  (y' / 400 * 146097 + (yoe * 365 + yoe / 4 - yoe / 100 + (153 * mp + 2) / 5 + d - 1)) - 4 * 146097 - 146037

/-- Leap years of the Gregorian rule (R431). -/
def leapYear (y : Nat) : Bool := decide (y % 4 = 0) && (!(decide (y % 100 = 0)) || decide (y % 400 = 0))

/-- Days in a month. -/
def monthDays (y m : Nat) : Nat :=
  if m = 2 then (if leapYear y then 29 else 28) else if m = 4 ∨ m = 6 ∨ m = 9 ∨ m = 11 then 30 else 31

/-- Last second of the calendar, 2399-12-31 23:59:59, counted from 2000-01-01 (R432). -/
def calendarLast : Int := 146097 * 86400 - 1

/-- Number of the day whose daily boundary is the latest at or before a local time; negative before the first one (R471). -/
def boundaryDay (s : State) (loc : Int) : Int := (loc - 60 * (obj s Obj.DailyBoundaryTime : Int)) / 86400

/-- Daily identifier of the latest daily boundary at or before a local time, 0 if none (R471). -/
def dailyId (s : State) (loc : Int) : Nat := (boundaryDay s loc + 1).toNat

/-- Monthly identifier of a day number's date when it is the billing day or later in its month, of the month before otherwise (R471). -/
def monthOfDay (s : State) (d : Nat) : Nat :=
  let c := civil d
  let n := (c.1 - 2000) * 12 + c.2.1
  if obj s Obj.BillingDay ≤ c.2.2 then n else n - 1

/-- Monthly identifier of the latest monthly boundary at or before a local time, 0 if none. -/
def monthlyId (s : State) (loc : Int) : Nat :=
  if boundaryDay s loc < 0 then 0 else monthOfDay s (boundaryDay s loc).toNat

/-- Stored identifiers (R471). -/
def storedDaily (n : Nat) : Nat := 0x10000000 + n

def storedMonthly (n : Nat) : Nat := 0x20000000 + n

/-- Day number on which the monthly boundary n falls. -/
def monthlyDay (s : State) (n : Nat) : Nat := dayNumber (2000 + (n - 1) / 12) ((n - 1) % 12 + 1) (obj s Obj.BillingDay)

/-- Weight of a pulse input: 1 when `PulseUnit` is 0 (Table 12.7). The table's words are taken as the weight in effect and not as a range that refuses other
values of `PulseWeight` (DESIGN CHOICE, log entry 96). -/
def pulseWeight (s : State) (i : Nat) : Nat := if obj s (Obj.PulseUnit i) = 0 then 1 else obj s (Obj.PulseWeight i)

/-- Whole units that a latch moves from each accumulator into its register (R463): nL to mL, µJ to mWh, ticks to seconds, pulses. -/
def movedUnits (s : State) : NMap Nat :=
  let a := s.accs
  let e := fun (m : NMap Nat) (c : Nat) => mget m c 0 / 3600000
  let p := fun (i : Nat) => mget a.pulse i 0
  [(0x01, a.volFwd / 1000000), (0x02, a.volRev / 1000000), (0x03, a.volConv / 1000000), (0x04, a.heat / 3600000), (0x05, a.cool / 3600000),
   (0x0A, e a.elecImp 1), (0x0B, e a.elecImp 2), (0x0C, e a.elecExp 1), (0x0D, e a.elecExp 2),
   (0x0E, e a.fundImp 1), (0x0F, e a.fundImp 2), (0x10, e a.fundExp 1), (0x11, e a.fundExp 2),
   (0x12, p 1), (0x13, p 2), (0x14, p 3), (0x15, p 4),
   (0x16, p 1 * pulseWeight s 1), (0x17, p 2 * pulseWeight s 2), (0x18, p 3 * pulseWeight s 3), (0x19, p 4 * pulseWeight s 4),
   (0x1A, a.unmeasured), (0x1B, a.flowErrTicks / 32768), (0x1C, a.heatErrTicks / 32768)]

/-- The remainders a latch leaves in the accumulators. -/
def Accs.rest (a : Accs) : Accs :=
  let e := fun (m : NMap Nat) => m.map (fun x => (x.1, x.2 % 3600000))
  { a with
    volFwd := a.volFwd % 1000000, volRev := a.volRev % 1000000, volConv := a.volConv % 1000000
    heat := a.heat % 3600000, cool := a.cool % 3600000
    elecImp := e a.elecImp, elecExp := e a.elecExp, fundImp := e a.fundImp, fundExp := e a.fundExp
    pulse := [], unmeasured := 0, flowErrTicks := a.flowErrTicks % 32768, heatErrTicks := a.heatErrTicks % 32768 }

/-- Add units to a register; registers wrap at their width. -/
def addReg (s : State) (n units : Nat) : State :=
  let w := if n = 0x1B ∨ n = 0x1C then 2 ^ 32 else 2 ^ 64
  setObj s (regKey n) ((obj s (regKey n) + units) % w)

/-- Move every accumulator together into its register (R463); registers of a fused-off block are never latched (R461). -/
def moveAccs (s : State) : State :=
  let t := ((movedUnits s).filter (fun e => regPresent s.code e.1)).foldl (fun a e => addReg a e.1 e.2) s
  { t with accs := s.accs.rest }

/-- Does a code-2 tariff window hold at a local time (Table 14.3)? -/
def windowHolds (s : State) (t : Nat) (loc : Int) : Bool :=
  let w := bytesOf 5 (obj s (Obj.TariffWindow t))
  let a := natOf (w.take 2)
  let b := natOf ((w.drop 2).take 2)
  let m := (loc % 86400 / 60).toNat
  let inside := if b < a then decide (a ≤ m) || decide (m < b) else decide (a ≤ m) && decide (m < b)
  inside && bitOf (natOf (w.drop 4)) (obj s Obj.Weekday - 1)

/-- Does a tariff's condition hold now (Table 14.3)? -/
def tariffHolds (s : State) (t : Nat) : Bool :=
  let thr := objI 4 s (Obj.TariffThreshold t)
  match obj s (Obj.TariffCondition t) with
  | 1 => true
  | 2 => windowHolds s t (localSecs s)
  | 3 => decide (thr ≤ objI 4 s Obj.SupplyTemperature)
  | 4 => decide (objI 4 s Obj.SupplyTemperature < thr)
  | 5 => decide (thr ≤ objI 4 s Obj.FlowRate)
  | 6 => decide (thr ≤ objI 4 s Obj.HeatPower)
  | 7 => decide (s.code = .le) && decide (thr ≤ objI 4 s (Obj.ActivePower 1))
  | _ => false

/-- Evaluate every tariff condition anew (R468). -/
def evalTariffs (s : State) : State :=
  let h := subs4.map (tariffHolds s)
  let t := { s with tally := { s.tally with tariffHeld := h } }
  setObj t Obj.TariffActive (((h.zip [0, 1, 2, 3]).filter (·.1)).foldl (fun m e => m + 2 ^ e.2) 0)

/-- Add the increase of each tariff's quantity where its condition held at the previous latch (R468). -/
def addTariffs (s : State) (before : NMap Nat) : State :=
  ((s.tally.tariffHeld.zip subs4).filter (·.1)).foldl (fun a e =>
    let q := obj a (Obj.TariffQuantity e.2)
    match mfind before q with
    | some old => setObj a (Obj.TariffRegister e.2) ((obj a (Obj.TariffRegister e.2) + (obj a (regKey q) + 2 ^ 64 - old) % 2 ^ 64) % 2 ^ 64)
    | none => a) s

/-- Tally register of a pulse output source (Table 12.2), 0 for off. -/
def outSourceReg (c : Nat) : Nat :=
  if c = 0 then 0 else if c ≤ 5 then c
  else if c = 6 then 0x0A else if c = 7 then 0x0C else if c = 8 then 0x0B else if c = 9 then 0x0D
  else if c ≤ 13 then 0x16 + (c - 10) else 0

/-- What a pulse output keeps beside its objects. -/
def outSt (s : State) (o : Nat) : PulseOut := mget s.pulse.outs o ⟨false, false, 0⟩

/-- Store it. -/
def setOut (s : State) (o : Nat) (x : PulseOut) : State := { s with pulse := { s.pulse with outs := mset s.pulse.outs o x } }

/-- Drive PO low for a pulse, or release it (R415); Z while VIO is out (R59). -/
def driveOut (s : State) (o : Nat) (low : Bool) : State := { s with pads := { s.pads with po := mset s.pads.po o (low && s.ports.vioOk) } }

/-- Start the next owed pulse of an idle output (R415): pulses are emitted in full mode only; while VIO holds the outputs at Z they stay owed (R59; log
entry 71). -/
def startOut (s : State) (o : Nat) : State :=
  let x := outSt s o
  if isFull s && s.ports.vioOk && decide (0 < obj s (Obj.PulseOutBacklog o)) && !x.pulsing && !x.spacing then
    driveOut (setOut s o ⟨true, false, ticks s⟩) o true
  else s

/-- Owe pulses for the increase of an output's source (R414, R415). -/
def oweOut (before : NMap Nat) (s : State) (o : Nat) : State :=
  match mfind before (outSourceReg (obj s (Obj.PulseOutSource o))) with
  | none => s
  | some old =>
    let reg := outSourceReg (obj s (Obj.PulseOutSource o))
    let rem := mget s.accs.outRem o 0 + (obj s (regKey reg) + 2 ^ 64 - old) % 2 ^ 64
    let c := obj s (Obj.PulseOutConstant o)
    let owed := obj s (Obj.PulseOutBacklog o)
    let t := setObj s (Obj.PulseOutBacklog o) ((owed + rem / c) % 2 ^ 32)
    let u := { t with accs := { t.accs with outRem := mset t.accs.outRem o (rem % c) } }
    let lim := obj s Obj.PulseOutBacklogLimit
    let v := if owed ≤ lim ∧ lim < owed + rem / c then raise u 0x2605 else u
    startOut v o

/-- Coefficient of performance (R406), on XQ40-LE. -/
def copAtLatch (s : State) : State :=
  if s.code ≠ .le then s
  else
    let src := obj s Obj.CopSource
    let pick := fun (f : Nat → Int) => if src = 0 then f 1 else if src = 1 then f 2 else f 1 + f 2
    let pe := pick (fun c => objI 4 s (Obj.ActivePower c))
    let w := pick (fun c => (obj s (Obj.ElecEnergyImport c) : Int) - (mget s.elec.imp0 c 0 : Nat))
    let h : Int := if obj s Obj.HeatMode = 1 then (obj s Obj.CoolingEnergy : Int) - s.elec.cool0
      else (obj s Obj.HeatEnergy : Int) - s.elec.heat0
    let noInst := decide (pe < obj s Obj.CreepThreshold) || decide (pe = 0)
    let noCum := decide (w = 0)
    let t := setObj s Obj.CopInstant (if noInst then 0 else ofInt 4 (roundDiv (objI 4 s Obj.HeatPower * 65536) pe))
    let u := setObj t Obj.CopCumulative (if noCum then 0 else ofInt 4 (roundDiv (h * 65536) w))
    objBit u Obj.ElecStatus 5 (noInst || noCum)

/-- Quantities of an interval entry: `IntervalQuantity`:01–08 up to the first that is 0 (R477). -/
def intervalRegs (s : State) : List Nat :=
  ([1, 2, 3, 4, 5, 6, 7, 8].map (fun i => obj s (Obj.IntervalQuantity i))).takeWhile (· ≠ 0)

/-- Register values of an interval entry; a register of a fused-off block is never logged and takes no place in it (R9, R461). -/
def intervalValues (s : State) : List Nat :=
  ((intervalRegs s).filter (regPresent s.code)).map (fun n => obj s (regKey n))

/-- A snapshot with the values of the latch just taken (Table 14.4). -/
def snapshotOf (s : State) (id flags : Nat) : Snapshot :=
  { id := id, flags := flags, time := t48 s, uptime := uptime s, seq := obj s Obj.LatchSequence
    regs := if 0x20000000 ≤ id then allRegs s else regsOf s (obj s Obj.DailyRegisters)
    unit := 0
    ecc := .good }

/-- The log entries a latch leaves pending (R463): its snapshots, then its interval entries; none in the read-only stage (R492). -/
def pendLogs (s : State) (tr : Trigger) : State :=
  if obj s Obj.StoreStage = 2 then s
  else
    { s with tally := { s.tally with
        snapsPending := s.tally.snapsPending ++ tr.snaps.map (fun e => snapshotOf s e.1 e.2)
        intervalsPending := s.tally.intervalsPending ++
          tr.ivls.map (fun e => ⟨0, e.1, e.2, uptime s, obj s Obj.LatchSequence, intervalValues s, 0, .good⟩) } }

/-- Is the LATCH record of this latch journalled (R465)? -/
def latchJournalled (s : State) (flags : Nat) : Bool :=
  decide (flags % 8 ≠ 0) ||
  match s.tally.journalUptime with
  | none => true
  | some u => decide (u + obj s Obj.LatchJournalInterval ≤ uptime s)

/-- Put the latch into the tally latch FIFO, which sets a work-pending flag (R111). -/
def fifoLatch (s : State) (tr : Trigger) : State :=
  let j := latchJournalled s tr.flags
  let t := startCclk s
  { t with tally := { t.tally with
      fifo := s.tally.fifo ++ [⟨obj s Obj.LatchSequence, tr.flags, tr.daily, uptime s, allRegs s, j⟩]
      journalUptime := if j then some (uptime s) else s.tally.journalUptime
      latchUptime := uptime s
      latchTime := t48 s } }

/-- Take a latch (R463): accumulators together, `LatchSequence`, tariffs, pulse outputs, then pending log entries. Committed tariff and pulse settings
apply here (Table 14.10, R421), after the increases of this latch (log entry 14). -/
def takeLatch (s : State) (tr : Trigger) : State :=
  let before := allRegs s
  let s1 := bump (moveAccs s) Obj.LatchSequence
  let s2 := addTariffs s1 before
  let s3 := if pendingOf s2 .tariff then applyPend s2 .tariff else s2
  let s4 := evalTariffs s3
  let s5 := [1, 2, 3].foldl (oweOut before) s4
  let s6 := if pendingOf s5 .pulse then applyPend s5 .pulse else s5
  let s7 := copAtLatch s6
  irq (fifoLatch (pendLogs s7 tr) tr) 1

/-- Merge triggers (R462, R486). -/
def Trigger.merge (a b : Trigger) : Trigger :=
  ⟨Nat.lor a.flags b.flags, max a.daily b.daily, a.snaps ++ b.snaps, a.ivls ++ b.ivls⟩

/-- A trigger that carries nothing. -/
def Trigger.plain : Trigger := ⟨0, 0, [], []⟩

/-- A latch trigger (R462): the latch is taken, or postponed while the tally latch FIFO is full (R486). -/
def latch (s : State) (tr : Trigger) : State :=
  if s.tally.fifo.length < 4 ∧ s.tally.postponed = none then takeLatch s tr
  else
    match s.tally.postponed with
    | none => raise { s with tally := { s.tally with postponed := some tr } } 0x3102
    | some p => { s with tally := { s.tally with postponed := some (p.merge tr) } }

/-- Mark what a postponed latch carries LATE when it carries a boundary (R486). -/
def Trigger.late (t : Trigger) : Trigger :=
  { t with flags := if t.flags % 4 ≠ 0 then Nat.lor t.flags 0x20 else t.flags
           snaps := t.snaps.map (fun e => (e.1, Nat.lor e.2 8)) }

/-- A slot in the tally latch FIFO frees, so the postponed latch is taken (R486). -/
def execPostponedLatchTaken (s : State) : Res :=
  match s.tally.postponed with
  | none => ok s
  | some tr =>
    when (decide (s.tally.fifo.length < 4)) s fun s =>
      takeLatch { s with tally := { s.tally with postponed := none } } tr.late

/-- Does boundary processing run (R473)? -/
def boundariesRun (s : State) : Bool := isFull s && (s.rtc.valid || s.rtc.restored)

/-- Set each `LastBoundaryId` to the latest boundary at or before the present local time, without a snapshot (R473); the identifiers are
journalled (log entry 99). -/
def initBoundaries (s : State) : State :=
  let loc := localSecs s
  let d := dailyId s loc
  let m := monthlyId s loc
  let u := (commitObjs s [(Obj.LastBoundaryId 1, if d = 0 then 0 else storedDaily d), (Obj.LastBoundaryId 2, if m = 0 then 0 else storedMonthly m)]).2
  { u with tally := { u.tally with boundaryInit := true, boundaryLocal := loc } }

/-- The unrecorded boundaries up to a local time, ascending in time, a daily one before a monthly one at the same instant (R472, R474): pairs of day and
stored identifier, cut to the newest 400 daily and 60 monthly ones, with the number left out. Only boundaries after the local time `since` count. -/
def dueBoundaries (s : State) (since loc : Int) : List (Nat × Nat) × Nat :=
  let d0 := max (obj s (Obj.LastBoundaryId 1) % 0x10000000) (dailyId s since)
  let m0 := max (obj s (Obj.LastBoundaryId 2) % 0x10000000) (monthlyId s since)
  let d1 := dailyId s loc
  let m1 := monthlyId s loc
  let nd := d1 - d0
  let nm := m1 - m0
  let kd := min nd 400
  let km := min nm 60
  let ds := (List.range kd).map (fun i => (d1 - kd + i, storedDaily (d1 - kd + i + 1)))
  let ms := (List.range km).map (fun i => let n := m1 - km + i + 1; (monthlyDay s n, storedMonthly n))
  let pick := fun (day : Nat) => ms.filter (fun e => e.1 = day)
  let early := ms.filter (fun e => e.1 < d1 - kd)
  (early ++ ds.flatMap (fun e => e :: pick e.1) ++ (if kd = 0 then ms.filter (fun e => d1 - kd ≤ e.1) else []), (nd - kd) + (nm - km))

/-- The trigger that carries boundaries, with the flags byte of each snapshot. -/
def boundaryTrigger (l : List (Nat × Nat)) (snapFlags : Nat) : Trigger :=
  let ds := l.filter (fun e => e.2 < 0x20000000)
  let ms := l.filter (fun e => 0x20000000 ≤ e.2)
  ⟨(if ds = [] then 0 else 1) + (if ms = [] then 0 else 2), (l.map (fun e => e.1 + 1)).foldl max 0, l.map (fun e => (e.2, snapFlags)), []⟩

/-- Record the boundaries as written (R472). -/
def recordBoundaries (s : State) (l : List (Nat × Nat)) : State :=
  l.foldl (fun a e => setObj a (Obj.LastBoundaryId (if e.2 < 0x20000000 then 1 else 2)) e.2) s

/-- BOUNDARIES_SKIPPED with the number left out (R474). -/
def boundariesSkipped (s : State) (n : Nat) : State := if n = 0 then s else raise s 0x3101 (pl 4 n)

/-- Executing a latch (R462). -/
def latchNow (s : State) : State := latch s .plain

/-- Interval period in force, minutes: 24 h in the conserve stage (R209), else the one taken over at the last interval end (R477). -/
def periodNow (s : State) : Nat := if obj s Obj.StoreStage = 1 then 1440 else s.tally.intervalPeriod

/-- Flags byte of the interval that ends now (Table 14.5). -/
def intervalFlags (s : State) (step short : Bool) : Nat :=
  (if step then 1 else 0) + (if short || s.tally.intervalPartial then 2 else 0) + (if s.rtc.valid then 0 else 4)

/-- Begin the next interval at a local time, under the period now written (R477). -/
def beginInterval (s : State) (loc : Int) : State :=
  { s with tally := { s.tally with intervalStart := some loc, intervalPartial := false, intervalPeriod := obj s Obj.IntervalPeriod } }

/-- Has local time passed a daily boundary that is not yet processed (R471)? -/
def boundaryDue (s : State) : Bool :=
  boundariesRun s && s.tally.boundaryInit && decide (boundaryDay s s.tally.boundaryLocal < boundaryDay s (localSecs s))

/-- Has local time reached a multiple of `IntervalPeriod` since the interval began (R477)? -/
def intervalDue (s : State) : Bool :=
  match s.tally.intervalStart with
  | none => false
  | some st => isFull s && decide (st / (60 * (periodNow s : Int)) < localSecs s / (60 * (periodNow s : Int)))

/-- The boundary part of a latch (R472): the new identifiers are recorded, and their snapshots owed. -/
def boundaryPart (s : State) : State × Trigger :=
  if boundaryDue s then
    let due := (dueBoundaries s s.tally.boundaryLocal (localSecs s)).1
    (recordBoundaries { s with tally := { s.tally with boundaryLocal := localSecs s } } due, boundaryTrigger due 0)
  else (s, .plain)

/-- The interval part of a latch (R477): its entry is owed, and the next interval begins. -/
def intervalPart (s : State) : State × Trigger :=
  if intervalDue s then (beginInterval s (localSecs s), ⟨4, 0, [], [(binSecs s, intervalFlags s false false)]⟩) else (s, .plain)

/-- The latch at a local second: a boundary, an interval end and a tariff switch that fall on it are merged (R462; log entry 98). -/
def secondLatch (s : State) : State :=
  let b := boundaryPart s
  let i := intervalPart b.1
  latch i.1 (b.2.merge i.2)

/-- Local time reaches a daily or monthly boundary (R471, R472): a latch is taken, and a snapshot written when the identifier is new. -/
def execBillingBoundary (s : State) : Res :=
  when (boundariesRun s) s fun s =>
    if !s.tally.boundaryInit then initBoundaries s else if boundaryDue s then secondLatch s else s

/-- Boundaries that passed outside full mode (R476): snapshots with the restored values, marked DEFERRED, and TIME_RESTORED with RESTORED. -/
def deferredBoundaries (s : State) : State :=
  if !boundariesRun s then s
  else if !s.tally.boundaryInit then initBoundaries s
  else
    let (due, skipped) := dueBoundaries s s.tally.boundaryLocal (localSecs s)
    let t := { s with tally := { s.tally with boundaryLocal := localSecs s } }
    if due = [] then t
    else boundariesSkipped (latch (recordBoundaries t due) (boundaryTrigger due (2 + if s.rtc.restored then 4 else 0))) skipped

/-- A tariff switch second: the condition of a code-2 tariff changes at a local second (R470). -/
def execTariffSwitchSecond (s : State) : Res :=
  let changes := (subs4.zip s.tally.tariffHeld).any (fun e =>
    decide (obj s (Obj.TariffCondition e.1) = 2) && (windowHolds s e.1 (localSecs s) != e.2))
  when (isFull s && changes) s secondLatch

/-- Local time reaches a multiple of `IntervalPeriod` after local midnight, in full mode (R477, R478). -/
def execIntervalEnd (s : State) : Res := when (intervalDue s) s secondLatch

/-- The trigger of a step, set or change of offset (R462, R474, R478): the interval closes with STEP, PARTIAL when it ran short, and each unrecorded
boundary passed forward gets a SYNTHESISED snapshot of this latch. -/
def stepTrigger (s : State) (due : List (Nat × Nat)) : Trigger :=
  let loc := localSecs s
  let closes : Trigger := match s.tally.intervalStart with
    | none => ⟨0x10, 0, [], []⟩
    | some st => ⟨0x14, 0, [], [(binSecs s, intervalFlags s true (decide (loc - st < 60 * (periodNow s : Int))))]⟩
  let b := boundaryTrigger due 1
  closes.merge (if due = [] then b else { b with flags := b.flags + 8 })

/-- Boundaries a move of local time passes forward (R474); none backward (R475). -/
def stepBoundaries (s : State) (newLoc : Int) : List (Nat × Nat) × Nat :=
  if boundariesRun s && s.tally.boundaryInit && decide (localSecs s < newLoc) then dueBoundaries s (localSecs s) newLoc else ([], 0)

/-- The latch just before a step, set or change of offset takes effect, in full mode (R462). -/
def preStep (s : State) (newLoc : Int) : State :=
  if !isFull s then s
  else
    let (due, skipped) := stepBoundaries s newLoc
    boundariesSkipped (latch (recordBoundaries s due) (stepTrigger s due)) skipped

/-- After a step, set or change of offset: boundaries count on from the new local time, the next interval begins there, and tariff conditions are
evaluated again (R475, R478, R433). -/
def postStep (s : State) : State :=
  if !isFull s then s
  else
    let t := if boundariesRun s && !s.tally.boundaryInit then initBoundaries s
      else { s with tally := { s.tally with boundaryLocal := localSecs s } }
    let u := match t.tally.intervalStart with
      | none => t
      | some _ => beginInterval t (localSecs t)
    evalTariffs u

end Sys2Proof.Machine
end

