-- ==== Sys2Proof/Machine/Rtc.lean ====
section
/-! DEFINITION. Time of day (chapter 13): trims, sets, steps, slews, references, alarms, the periodic wake. -/

namespace Sys2Proof.Machine

/-- The trims of R429 and R104, clamped; LF_TRIM_CLAMP is logged at the onset of the outer clamp (log entry 15). -/
def updateTrim (s : State) : State :=
  let u := objI 4 s Obj.RtcRateTrim + objI 4 s Obj.RtcAgeingTrim + objI 4 s Obj.RtcLoopTrim
  let sum := clampI (-50000) 50000 u + objI 4 s Obj.LfCompensation
  let was := objI 4 s Obj.RtcTotalTrim
  let beyond := decide (sum < -100000) || decide (100000 < sum)
  let t := setI 4 { s with rtc := { s.rtc with trimClamped := decide (u < -50000) || decide (50000 < u) } } Obj.RtcTotalTrim
    (clampI (-100000) 100000 sum)
  if beyond && decide (was ≠ 100000) && decide (was ≠ -100000) then raise t 0x1207 else t

/-- D of R428: what one LF edge adds to both counts, in 2⁻⁴⁸ s. -/
def edgeStep (r : Int) : Int := 2 ^ 33 + roundDiv (2 ^ 33 * r) 100000000

/-- What one LF edge moves binary time by while a slew runs (R428). -/
def slewStep (s : State) : Int := roundDiv (2 ^ 33 * obj s Obj.SlewRate) 1000000

/-- Slew part of one LF edge, limited to what is left (R438). -/
def slewNow (s : State) : Int := clampI (-slewStep s) (slewStep s) s.rtc.slew

/-- Does the glade domain run (R94)? While TEST holds the part no function runs (R60). -/
def gladeRuns (s : State) : Bool := s.pw.gladeOn && decide (s.pw.mode ≠ .off) && decide (s.pw.mode ≠ .testHold)

/-- One LF edge on both counts (R428). -/
def countEdge (s : State) : State :=
  if !gladeRuns s then s
  else
    let d := edgeStep (objI 4 s Obj.RtcTotalTrim)
    { s with rtc := { s.rtc with
        tk := s.rtc.tk + d.toNat
        bin := ((s.rtc.bin : Int) + d + slewNow s).toNat
        slew := s.rtc.slew - slewNow s } }

/-- `RtcStatus` (Table 13.6). -/
def rtcStatus (s : State) : Nat :=
  (if s.rtc.valid then 1 else 0) + (if s.rtc.disciplined then 2 else 0) + (if s.rtc.slew ≠ 0 then 4 else 0)
    + (if s.rtc.restored then 8 else 0) + (if s.rtc.trimClamped then 16 else 0) + (if s.rtc.calEnd then 32 else 0)

/-- `Calendar` (R431, R432): seven BCD bytes. -/
def calendarBytes (s : State) : List Byte :=
  let l := clampI 0 calendarLast (localSecs s)
  let c := civil (l / 86400).toNat
  let t := (l % 86400).toNat
  [bcd (c.1 / 100), bcd (c.1 % 100), bcd c.2.1, bcd c.2.2, bcd (t / 3600), bcd (t / 60 % 60), bcd (t % 60)].map (BitVec.ofNat 8)

/-- Local seconds of a `CalendarSet` value, none where R436 refuses it: digits not BCD, a field or the year out of range. -/
def calendarSecs (l : List Byte) : Option Nat :=
  match l.map (fun b => unBcd b.toNat) with
  | [some yh, some yl, some mo, some d, some h, some mi, some se] =>
    let y := yh * 100 + yl
    if 2000 ≤ y ∧ y ≤ 2399 ∧ 1 ≤ mo ∧ mo ≤ 12 ∧ 1 ≤ d ∧ d ≤ monthDays y mo ∧ h ≤ 23 ∧ mi ≤ 59 ∧ se ≤ 59 then
      some (dayNumber y mo d * 86400 + h * 3600 + mi * 60 + se)
    else none
  | _ => none

/-- Alarm setting bytes (Table 13.3). -/
def alarmBytes (s : State) (a : Nat) : List Nat := (bytesOf 7 (obj s (Obj.AlarmSetting a))).map BitVec.toNat

/-- Does a setting's date part match a local day with the present `Weekday` (R446)? -/
def alarmDay (s : State) (b : List Nat) (day : Int) : Bool :=
  let m := b[0]?.getD 0
  let c := civil (clampI 0 146096 day).toNat
  (!bitOf m 3 || decide (b[2]?.getD 0 = bcd c.2.2)) && (!bitOf m 4 || decide (b[1]?.getD 0 = bcd c.2.1))
    && (!bitOf m 5 || decide (b[6]?.getD 0 = obj s Obj.Weekday))

/-- Does a setting's time part match a second of the day? -/
def alarmTime (b : List Nat) (h mi se : Nat) : Bool :=
  let m := b[0]?.getD 0
  (!bitOf m 0 || decide (b[5]?.getD 0 = bcd se)) && (!bitOf m 1 || decide (b[4]?.getD 0 = bcd mi)) && (!bitOf m 2 || decide (b[3]?.getD 0 = bcd h))

/-- Does an alarm match at a local second, as `Calendar` shows it (R432, R446)? A mask of 0 disables it. -/
def alarmMatches (s : State) (a : Nat) (loc : Int) : Bool :=
  let b := alarmBytes s a
  let l := clampI 0 calendarLast loc
  let t := (l % 86400).toNat
  decide (b[0]?.getD 0 ≠ 0) && alarmDay s b (l / 86400) && alarmTime b (t / 3600) (t / 60 % 60) (t % 60)

/-- Does a second of the day from lo to hi match an alarm's time part? -/
def alarmWithin (b : List Nat) (lo hi : Int) : Bool :=
  (List.range 24).any (fun h => (List.range 60).any (fun m => (List.range 60).any (fun x =>
    alarmTime b h m x && decide (lo ≤ h * 3600 + m * 60 + x) && decide ((h * 3600 + m * 60 + x : Int) ≤ hi))))

/-- Does the interval of local seconds (lo, hi] contain a match (R447)? Longer than 366 days counts as one. -/
def alarmSkipped (s : State) (a : Nat) (from_ to_ : Int) : Bool :=
  let b := alarmBytes s a
  let lo := clampI 0 calendarLast from_
  let hi := clampI 0 calendarLast to_
  if to_ ≤ from_ ∨ b[0]?.getD 0 = 0 then false
  else if 366 * 86400 < to_ - from_ then true
  else
    let d0 := (lo + 1) / 86400
    (List.range ((hi / 86400 - d0).toNat + 1)).any (fun i =>
      let d := d0 + i
      alarmDay s b d && alarmWithin b (if i = 0 then lo + 1 - d * 86400 else 0) (if d = hi / 86400 then hi - d * 86400 else 86399))

/-- Fire alarm a (1 or 2): its flag, its event and IrqStatus bit [3] (R446, R482); with the core stopped only the flag (R457). -/
def fireAlarm (s : State) (a : Nat) : State :=
  let t := objBit s Obj.AlarmFlags (a - 1) true
  if coreUp s then raise (irq (startCclk t) 3) (if a = 1 then 0x300A else 0x300B) else t

/-- Alarms on a move of local time (R447). -/
def skippedAlarms (s : State) (lo : Int) : State :=
  [1, 2].foldl (fun t a => if alarmSkipped t a lo (localSecs t) then fireAlarm t a else t) s

/-- Local time moves by a step, set or change of offset: the weekday counter does not (R434). -/
def movedLocal (s : State) (oldLoc : Int) : State :=
  let t := postStep { s with rtc := { s.rtc with dayChange := (localDay s).toNat } }
  skippedAlarms t oldLoc

/-- The new offset stands, OFFSET_CHANGED with both (R433). -/
def storeOffset (s : State) (new : Nat) (extra : List (Nat × Nat)) : State :=
  raise (commitObjs s ((Obj.LocalOffset, new) :: extra)).2 0x3002 [obj s Obj.LocalOffset, new]

/-- A change of offset (R433): a pre-step latch, the new offset, and what follows a move of local time. -/
def changeOffset (s : State) (new : Nat) (extra : List (Nat × Nat)) : State :=
  movedLocal (storeOffset (preStep s ((binSecs s : Int) + 900 * toInt 1 new)) new extra) (localSecs s)

/-- Is a scheduled change of offset due at a binary time in 2⁻¹⁶ s (R433)? -/
def offsetDue (s : State) (now : Int) : Bool :=
  coreUp s && decide (obj s Obj.LocalOffsetChangeTime ≠ 0) && decide ((obj s Obj.LocalOffsetChangeTime : Int) ≤ now)

/-- The scheduled change of offset (R433). -/
def scheduledOffset (s : State) : State := storeOffset s (obj s Obj.LocalOffsetNext) [(Obj.LocalOffsetChangeTime, 0)]

/-- Binary time reaches a non-zero `LocalOffsetChangeTime` (R433). -/
def execOffsetChanged (s : State) : Res :=
  when (offsetDue s (t48 s)) s fun s =>
    changeOffset s (obj s Obj.LocalOffsetNext) [(Obj.LocalOffsetChangeTime, 0)]

/-- A set or step changes binary time at an LF edge (R435, R437, R488): cause 1 `RtcTimeSet` and 2 `CalendarSet` carry the new time and clear the
sub-bits; 3 Grove and 4 Lysef carry the offset. Any running slew ends (R435, R453). A scheduled change of offset that falls due with it follows at once, and
alarms and boundaries are judged on the result (R451, R488). -/
def applyStep (s : State) (v : Int) (cause : Nat) : State :=
  let old : Int := t48 s
  let new : Int := if cause ≤ 2 then v else old + v
  let by' := new - old
  let oldLoc := localSecs s
  let due := offsetDue s new
  let t := preStep s (new / 65536 + 900 * objI 1 s (if due then Obj.LocalOffsetNext else Obj.LocalOffset))
  let bin := if cause ≤ 2 then (new * 2 ^ 32).toNat else ((t.rtc.bin : Int) + v * 2 ^ 32).toNat
  let wasValid := t.rtc.valid
  let u := { t with rtc := { t.rtc with bin := bin, slew := 0, pendSet := none, valid := true, restored := false } }
  let w := raiseAt (bump (setObj u Obj.LastStepSize (fitI 8 1 by')) Obj.StepCount) 0x3001 old.toNat (pl 7 (ofInt 7 by') ++ [cause])
  let x := if wasValid then w else raise w 0x3004
  movedLocal (if due then scheduledOffset x else x) oldLoc

/-- A set or step on its way takes effect at the LF edge (R437). -/
def execClockStep (s : State) : Res :=
  match s.rtc.pendSet with
  | none => ok s
  | some (v, cause) => when (gladeRuns s) s fun s => applyStep s v cause

/-- The full slew amount has been added, so SLEWING clears (R438). -/
def execSlewEnd (s : State) : Res :=
  when (gladeRuns s && decide (s.rtc.slew ≠ 0) && decide (slewNow s = s.rtc.slew)) s fun s =>
    { s with rtc := { s.rtc with bin := ((s.rtc.bin : Int) + s.rtc.slew).toNat, slew := 0 } }

/-- Local time reaches 00:00:00 by counting or slewing (R434). -/
def execWeekdayAdvance (s : State) : Res :=
  when (gladeRuns s && decide (s.rtc.dayChange < (localDay s).toNat)) s fun s =>
    let t := { s with rtc := { s.rtc with dayChange := (localDay s).toNat } }
    setObj t Obj.Weekday (obj t Obj.Weekday % 7 + 1)

/-- The local calendar matches an alarm at a second (R446, R457). -/
def execAlarmFire (alarm : Fin 2) (s : State) : Res :=
  when (gladeRuns s && alarmMatches s (alarm.val + 1) (localSecs s)) s fun s => fireAlarm s (alarm.val + 1)

/-- Period of `PeriodicWake` in 2⁻⁴⁸ s. -/
def wakePeriod (s : State) : Nat := obj s Obj.PeriodicWake * 2 ^ 40

/-- VBK's validity (Table 03.2) at a measured level, mV. -/
def vbkValidAt (was : Bool) (mv : Nat) : Bool := decide (1800 < mv) || was && decide (1750 ≤ mv)

/-- A wake measures VBAT and VBK (Table 03.9, R62): VBK's validity follows Table 03.2, and VBAT above `VbatLowThreshold` ends what R81 began. -/
def wakeMeasure (s : State) (vbat vbk : Nat) : State :=
  let t := setMany s [(Obj.VbatMeasured, vbat % 65536), (Obj.VbkMeasured, vbk % 65536)]
  let u := { t with pw := { t.pw with vbk := vbkValidAt t.pw.vbk vbk } }
  if obj u Obj.VbatLowThreshold < vbat then clrErr (objBit { u with pw := { u.pw with low := false } } Obj.RadioStatus 3 false) 7 else u

/-- A `PeriodicWake` period elapses (R448): a wake; skipped without counting when the core is down (R457). -/
def execPeriodicWake (vbat vbk : Nat) (s : State) : Res :=
  when (gladeRuns s && decide (obj s Obj.PeriodicWake ≠ 0) && decide (s.rtc.wakeStart + wakePeriod s ≤ s.rtc.tk)) s fun s =>
    let t := { s with rtc := { s.rtc with wakeStart := s.rtc.wakeStart + wakePeriod s } }
    if !coreUp t then t
    else wakeMeasure (bump (startCclk t) Obj.PeriodicWakeCount) vbat vbk

/-- Local time passes 2399-12-31 23:59:59 (R432). -/
def execCalendarEnd (s : State) : Res :=
  when (coreUp s && decide (calendarLast < localSecs s) && !s.rtc.calEnd) s fun s =>
    raise { s with rtc := { s.rtc with calEnd := true } } 0x3009

/-- Is the last accepted reference of some enabled source recent enough (R443)? -/
def recentRef (s : State) : Bool :=
  [1, 2, 3].any (fun src => getBit s Obj.TimeSourceEnable (src - 1) &&
    match mfind s.rtc.refTicks src with
    | none => false
    | some t => decide (ticks s ≤ t + obj s Obj.HoldoverLimit * 86400 * 32768))

/-- The last accepted reference is older than `HoldoverLimit` (R443, R459). -/
def execDisciplineLost (s : State) : Res :=
  when (coreUp s && s.rtc.disciplined && !recentRef s) s fun s =>
    raise { s with rtc := { s.rtc with disciplined := false } } 0x3006

/-- The loop limit for one change: `LoopStepPerDay` times the days since the last change, at most 30; 30 before any change (R442, R456; log entry 16). -/
def loopLimit (s : State) : Int :=
  let day := 86400 * 32768
  let since := match s.rtc.loopTick with
    | none => 30 * day
    | some t => min (ticks s - t) (30 * day)
  (obj s Obj.LoopStepPerDay * since / day : Nat)

/-- A rate error ε in 0.01 ppm (R442): changes `RtcLoopTrim`, or is rejected; then DISCIPLINED (R443). -/
def rateError (s : State) (e : Int) : State :=
  let t := setObj s Obj.LastRateError (fitI 4 2 e)
  if e.natAbs ≤ obj t Obj.TrimRejectLimit then
    let lim := loopLimit t
    let tl : Int := obj t Obj.LoopTrimLimit
    let c := clampI (-lim) lim (-(roundDiv e 2))
    let u := setI 4 t Obj.RtcLoopTrim (clampI (-tl) tl (objI 4 t Obj.RtcLoopTrim + c))
    let w := updateTrim { u with rtc := { u.rtc with loopApplied := true, loopTick := some (ticks u) } }
    if w.rtc.disciplined then w else raise { w with rtc := { w.rtc with disciplined := true } } 0x3007
  else raise t 0x3005

/-- A reference is accepted (R440, R443). -/
def acceptRef (s : State) (b src : Nat) : State :=
  let t := setMany { s with rtc := { s.rtc with refTicks := mset s.rtc.refTicks src (ticks s) } } [(Obj.LastReferenceTime, b / 2 ^ 32 % 2 ^ 64), (Obj.ReferenceSource, src)]
  if t.rtc.loopApplied && !t.rtc.disciplined then raise { t with rtc := { t.rtc with disciplined := true } } 0x3007 else t

/-- The anchor of a source. -/
def anchorOf (s : State) (src : Nat) : Option RefSample := if src = 2 then s.rtc.grove else s.rtc.lysef

/-- Keep the newer sample as the source's anchor (R441). -/
def setAnchor (s : State) (src : Nat) (r : RefSample) : State :=
  if src = 2 then { s with rtc := { s.rtc with grove := some r } } else { s with rtc := { s.rtc with lysef := some r } }

/-- Rate part of a Grove or Lysef reference (R441): two accepted references at least `TrimWindowMin` apart in ρ. -/
def rateRef (s : State) (src : Nat) (r : RefSample) : State :=
  match anchorOf s src with
  | none => setAnchor s src r
  | some a =>
    let dr := r.rho - a.rho
    if (obj s Obj.TrimWindowMin : Int) * 65536 ≤ dr then
      rateError (setAnchor s src r) (roundDiv (((r.m : Int) - a.m - dr * 2 ^ 32) * 100000000) (dr * 2 ^ 32))
    else s

/-- TIME_OFFSET_LARGE, at most once per 24 h (Table 13.2). -/
def offsetLarge (s : State) : State :=
  let again : Bool := match s.rtc.largeTick with
    | none => true
    | some t => decide (t + 86400 * 32768 ≤ ticks s)
  if again then raise { s with rtc := { s.rtc with largeTick := some (ticks s) } } 0x3008 else s

/-- Is the part itself the time master of a medium (R439): crown for Grove time, Lysef master for Lysef time? -/
def timeMaster (s : State) (src : Nat) : Bool := if src = 2 then decide (obj s Obj.GroveRole = 2) else s.lm.running

/-- A Grove (2) or Lysef (3) reference: ρ in 2⁻¹⁶ s, trimmed ticks and binary time at its instant in 2⁻⁴⁸ s (R439, R440, R453, R454). -/
def phaseReference (s : State) (src : Nat) (rho : Int) (m b : Nat) : State :=
  if !getBit s Obj.TimeSourceEnable (src - 1) || timeMaster s src then s
  else
    let e := rho - ((b / 2 ^ 32 : Nat) : Int)
    let t := setObj (acceptRef s b src) Obj.LastReferenceOffset (fitI 4 3 (roundDiv (e * 1000000) 65536))
    let u := { t with rtc := { t.rtc with slew := 0 } }
    let v :=
      if u.rtc.valid ∧ (e.natAbs * 1000 ≤ obj u Obj.SlewLimit * 65536) then { u with rtc := { u.rtc with slew := e * 2 ^ 32 } }
      else if getBit u Obj.TimeSourceEnable (src + 2) then { u with rtc := { u.rtc with pendSet := some (e, src + 1) } }
      else offsetLarge u
    rateRef v src ⟨rho, m, b⟩

/-- A mains reference (R441): `cycles` line cycles ended with the block, over `MainsWindow`. -/
def mainsReference (s : State) (cycles : Nat) : State :=
  if !getBit s Obj.TimeSourceEnable 0 || decide (obj s Obj.ElecEnable = 0) then s
  else
    let t := { s with rtc := { s.rtc with mainsRho := s.rtc.mainsRho + cycles } }
    let u := acceptRef t t.rtc.bin 1
    let f : Int := obj u Obj.NominalFrequency
    let r : RefSample := ⟨u.rtc.mainsRho, u.rtc.tk, u.rtc.bin⟩
    match u.rtc.mains with
    | none => { u with rtc := { u.rtc with mains := some r } }
    | some a =>
      let dc := r.rho - a.rho
      if (obj u Obj.MainsWindow : Int) * 86400 * f ≤ dc then
        rateError { u with rtc := { u.rtc with mains := some r } }
          (roundDiv ((((r.m : Int) - a.m) * f - dc * 2 ^ 48) * 100000000) (dc * 2 ^ 48))
      else u

/-- NO_LINE discards the mains window (R441). -/
def mainsDiscard (s : State) : State := { s with rtc := { s.rtc with mains := none, mainsRho := 0 } }

/-- Ageing of the LF crystal at the noon pass while DISCIPLINED is clear (R444): `LfAgeingRate` / 365.25, with the remainder carried in 1/36525. -/
def lfAgeing (s : State) : State :=
  if s.rtc.disciplined then s
  else
    let a := s.rtc.ageCarry + 100 * objI 2 s Obj.LfAgeingRate
    updateTrim (setObj { s with rtc := { s.rtc with ageCarry := a % 36525 } } Obj.RtcAgeingTrim
      (fitI 4 4 (objI 4 s Obj.RtcAgeingTrim + a / 36525)))

end Sys2Proof.Machine
end

