-- ==== Sys2Proof/Machine/Clock.lean ====
section
/-! DEFINITION. Oscillators and CCLK (chapter 04): the LF source chain, compensation, the 32 MHz crystal, CCLK gating. -/

namespace Sys2Proof.Machine

/-- Number of an LF source (Table 04.8). -/
def LfSrc.num (l : LfSrc) : Nat :=
  match l with
  | .xtal => 0
  | .xl2 => 1
  | .rc => 2

/-- Is a source healthy: passed its start test, not retired, and fitted (R98, R124)? -/
def lfHealthy (s : State) (l : LfSrc) : Bool :=
  s.clk.passed.contains l && !s.clk.retired.contains l && (decide (l ≠ .xl2) || decide (obj s Obj.Xl2Fitted = 1))

/-- `LfSourceHealth` (Table 04.8). -/
def lfHealthBits (s : State) : Nat :=
  [LfSrc.xtal, .xl2, .rc].foldl (fun m l => m + (if lfHealthy s l then 2 ^ l.num else 0) + (if s.clk.retired.contains l then 2 ^ (l.num + 4) else 0)) 0

/-- `LfMargin` (Table 04.8): 0 when all three are retired or failed (R130). -/
def lfMargin (s : State) : Nat := ([LfSrc.xtal, .xl2, .rc].filter (lfHealthy s)).length

/-- `RadioSca` (R581). -/
def radioSca (s : State) : Nat :=
  match s.clk.lf with
  | .xtal => 10
  | .xl2 => 20
  | .rc => 50

/-- `CclkSource` (Table 04.8). -/
def cclkSource (s : State) : Nat :=
  match s.clk.cclk with
  | .stopped => 0
  | .rc => 1
  | .xtal => 2

/-- Days of uptime. -/
def upDay (s : State) : Nat := ticks s / (86400 * 32768)

/-- Is a failure at a trimmed tick within 30 days of now (R101)? -/
def recentFail (s : State) (e : LfSrc × Nat) : Bool := decide (ticks s ≤ e.2 + 30 * 86400 * 32768)

/-- `LfFailCount` of a source, as read: its failures within 30 days (R101, Table 04.8). -/
def lfFails (s : State) (l : LfSrc) : Nat := (s.clk.fails.filter (fun e => decide (e.1 = l) && recentFail s e)).length

/-- The next healthy source other than a failed one, else the RC kept running (R98, R130). -/
def nextLf (s : State) (failed : LfSrc) : LfSrc :=
  (([LfSrc.xtal, .xl2, .rc].filter (fun l => decide (l ≠ failed) && lfHealthy s l)).head?).getD .rc

/-- 122 µs in 2⁻⁴⁸ s (R99). -/
def lfGap : Nat := 34339947159

/-- Count a failure of a source and retire it at the third within 30 days (R99, R101). -/
def failLf (s : State) (l : LfSrc) : State :=
  let t := { s with clk := { s.clk with
    passed := s.clk.passed.filter (· ≠ l)
    fails := s.clk.fails.filter (recentFail s) ++ [(l, ticks s)] } }
  if 3 ≤ lfFails t l ∧ ¬ t.clk.retired.contains l then
    raise { t with clk := { t.clk with retired := t.clk.retired ++ [l] } } 0x1203 [l.num]
  else t

/-- Switch away from a failed source (R99): the RTC fraction advances by 122 µs; LF_SOURCE_SWITCH carries the old source, the new one and the gap, one byte,
one byte and four bytes in µs (widths and unit: DESIGN CHOICE, log entry 72). -/
def switchLf (s : State) (gap : Nat) : State :=
  let old := s.clk.lf
  let t := failLf s old
  let new := nextLf t old
  let u := { t with clk := { t.clk with lf := new }, rtc := { t.rtc with bin := t.rtc.bin + lfGap } }
  raise u 0x1201 ([old.num, new.num] ++ pl 4 (gap % 2 ^ 32))

/-- The missing-edge detector fires (R99). -/
def execLfSourceSwitch (gap : Nat) (s : State) : Res :=
  when (gladeRuns s) s fun s => switchLf s gap

/-- −k × (T − T0)² in 0.01 ppm (R103): T and T0 in 0.01 °C, k in 0.0001 ppm/°C². -/
def parabola (t t0 k : Int) : Int := roundDiv (-k * (t - t0) * (t - t0)) 1000000

/-- The compensation of a source at a die temperature (R103). -/
def compOf (s : State) (l : LfSrc) (t : Int) : Int :=
  match l with
  | .xtal => parabola t (objI 2 s Obj.LfTurnover) (objI 2 s Obj.LfCurvature)
  | .xl2 => parabola t (objI 2 s Obj.Xl2Turnover) (objI 2 s Obj.Xl2Curvature)
  | .rc => objI 4 s Obj.LfRcOffset

/-- Has an hour passed since the last HF measurement (R108)? -/
def hfHour (s : State) : Bool :=
  match s.clk.hfTick with
  | none => true
  | some t => decide (t + 3600 * 32768 ≤ ticks s)

/-- May an HF measurement start: `HfRefSource` 1, DISCIPLINED, not within an hour of the last one, no crystal failure in force (R108, R128), and the
interval timer available to stamp it (R288)? -/
def hfMayMeasure (s : State) : Bool :=
  decide (obj s Obj.HfRefSource = 1) && s.rtc.disciplined && hfHour s && !s.pw.hfFailed && decide (obj s Obj.TdcMode ≠ 2)

/-- A request reaches the timer arbiter (R249, R250): at most one per requester waits; none is taken while the timer is unavailable (R288). -/
def requestTimer (s : State) (q : TimerReq) : State :=
  if obj s Obj.TdcMode = 2 ∨ (s.tdc.waiting.any (fun w => w.1 == q)) then s
  else { s with tdc := { s.tdc with waiting := s.tdc.waiting ++ [(q, s.tdc.seq)], seq := (s.tdc.seq + 1) % 256 } }

/-- Is an LF edge stamp due: owed, and its edge reached (Table 04.5)? -/
def stampDue (s : State) : Option LfStamp := (s.tdc.owed.find? (fun e => decide (e.2 ≤ ticks s))).map (·.1)

/-- Ask the timer for a due stamp, unless its requester holds the timer (R249, Table 07.3); the end of that grant asks again. -/
def askStamp (s : State) : State :=
  if (stampDue s).isSome && !s.tdc.grant.any (fun g => decide (g.req = .frequency)) then requestTimer s .frequency else s

/-- Owe an LF edge stamp from a tick on. -/
def oweStamp (s : State) (k : LfStamp) (tick : Nat) : State :=
  { s with tdc := { s.tdc with owed := s.tdc.owed.filter (fun e => decide (e.1 ≠ k)) ++ [(k, tick)] } }

/-- Start an HF measurement (Table 04.5): the crystal starts, and the first stamp is requested at class N. -/
def startHf (s : State) : State :=
  if hfMayMeasure s ∧ ¬ s.clk.hfMeasuring then
    let t := startCclk s
    askStamp (oweStamp { t with clk := { t.clk with hfMeasuring := true, mclk := true } } .hfFirst (ticks t))
  else s

/-- The stamps of an RTC-trim measurement (R100, R105, Table 07.3): the tick's command brings its result, and its stamp holds the timer like any other
(log entry 90). Without the measure domain, or with the timer unavailable (R288), none is asked. -/
def stampTrim (s : State) : State :=
  if isFull s && !s.pw.hfFailed && decide (obj s Obj.TdcMode ≠ 2) then
    let t := startCclk s
    askStamp (oweStamp { t with clk := { t.clk with mclk := true } } .rtcTrim (ticks t))
  else s

/-- A stamp has been taken, or missed at the coarse overflow (Table 04.5): the second HF stamp takes the first LF edge at or after 32 768 periods from the
first, requested one edge before it; a missed one moves to the next LF edge. -/
def stampEnds (s : State) (k : LfStamp) (taken : Bool) : State :=
  if !taken then oweStamp s k (ticks s + 1)
  else
    match k with
    | .hfFirst => oweStamp s .hfSecond (ticks s + 32767)
    | _ => s

/-- Has the gate of an HF measurement both its stamps (Table 04.5 step 4)? -/
def hfStamped (s : State) : Bool :=
  s.tdc.owed.all (fun e => decide (e.1 = .rtcTrim))
    && !s.tdc.grant.any (fun g => decide (g.stamp = some .hfFirst) || decide (g.stamp = some .hfSecond))

/-- A source passes its test and is healthy from here on (R98, R102). -/
def passSource (s : State) (l : LfSrc) : State := { s with clk := { s.clk with passed := s.clk.passed.filter (· ≠ l) ++ [l] } }

/-- The return watch (R102): the first source of the order that is above the selected one, neither retired nor unfitted. -/
def startWatch (s : State) : State :=
  let c := [LfSrc.xtal, .xl2].filter (fun l => decide (l.num < s.clk.lf.num) && !s.clk.retired.contains l
    && (decide (l = .xtal) || decide (obj s Obj.Xl2Fitted = 1)))
  { s with clk := { s.clk with watch := c.head? } }

/-- R105 at a tick: the RC trim code moves by whole steps of 1000 ppm, the residual stays in `LfRcOffset`. The residual is stored negated, so that adding it
as a compensation slows an RC that runs fast (DESIGN CHOICE, log entry 73). -/
def trimRc (s : State) (rateErr : Int) : State :=
  let steps := roundDiv rateErr 100000
  setObj { s with clk := { s.clk with rcTrim := s.clk.rcTrim - steps } } Obj.LfRcOffset (fitI 4 5 (-(rateErr - 100000 * steps)))

/-- R103 at a tick: the die temperature, the compensation of the selected source, the trim in force. -/
def compensate (s : State) (dieTemp : Int) : State :=
  let t := setObj s Obj.DieTemperature (fitI 2 6 dieTemp)
  updateTrim (setObj t Obj.LfCompensation (fitI 4 7 (compOf t t.clk.lf dieTemp)))

/-- R100 at a tick: a selected source off its compensated nominal rate by more than `LfFaultLimit` has failed; an RC that passes is healthy again (R130). -/
def judgeLf (s : State) (dieTemp dev : Int) : State :=
  if obj s Obj.LfFaultLimit * 100 < (dev + compOf s s.clk.lf dieTemp).natAbs then switchLf s 122
  else if s.clk.lf = .rc ∧ ¬ s.clk.retired.contains .rc then passSource s .rc
  else s

/-- The 64 s compensation tick (R100, R103 to R105, R108, R130): the die temperature in 0.01 °C, the selected source's rate error against MCLK in 0.01 ppm,
positive when fast, and the same after the RC trim code has moved (R105). MCLK needs VBAT (Table 03.1), so without it the tick only compensates. With every
source retired or failed the RC keeps its last trim code and R102 applies at the tick too (R130). -/
def execCompensationTick (dieTemp rateErr : Int) (s : State) (check : Int := 0) : Res :=
  when (coreUp s) s fun s =>
    let trims := s.pw.vbat && decide (s.clk.lf = .rc) && decide (lfMargin s ≠ 0)
    let t := compensate (if trims then trimRc s rateErr else s) dieTemp
    let u := if t.pw.vbat then judgeLf t dieTemp (if trims then check else rateErr) else t
    let v := if lfMargin u = 0 then startWatch u else if u.pw.vbat then stampTrim u else u
    let moved : Bool := match v.clk.hfDie with
      | none => false
      | some d => decide (400 ≤ (dieTemp - d).natAbs)
    if isFull v && moved then startHf v else v

/-- After 64 s of watching, a higher source that passes the test of R100, and is still fitted and not retired, is switched back in; at most one return per
day (R102), a day being one of uptime (DESIGN CHOICE, log entry 74). -/
def execLfSourceReturn (rateErr : Int) (s : State) : Res :=
  match s.clk.watch with
  | none => ok s
  | some l =>
    when (gladeRuns s) s fun s =>
      let t := { s with clk := { s.clk with watch := none } }
      let again : Bool := match t.clk.returnDay with
        | none => true
        | some d => decide (d < upDay t)
      let usable := !t.clk.retired.contains l && (decide (l ≠ .xl2) || decide (obj t Obj.Xl2Fitted = 1))
      let comp := compOf t l (objI 2 t Obj.DieTemperature)
      if again && usable && decide ((rateErr + comp).natAbs ≤ obj t Obj.LfFaultLimit * 100) then
        let u := passSource { t with clk := { t.clk with lf := l, returnDay := some (upDay t) } } l
        raise u 0x1202
      else t

/-- Clear the retirements and `LfFailCount` (R101); the RC, which starts on its factory trim at any time, is healthy again. -/
def clearLf (s : State) : State := passSource { s with clk := { s.clk with retired := [], fails := [] } } .rc

/-- XL2 is to be start-tested: fitted, not retired, and not yet passed (R98, R124; when: DESIGN CHOICE, log entry 75). -/
def xl2Wanted (s : State) : Bool :=
  decide (obj s Obj.Xl2Fitted = 1) && !s.clk.passed.contains .xl2 && !s.clk.retired.contains .xl2

/-- The start test of an LF crystal ends (R98, Table 04.7): a source above the selected one is switched in, one below it stands ready; or R99 applies, and
XL2 starts when fitted. A test of an XL2 no longer fitted has no outcome (R124). -/
def execLfStartTestEnd (stable : Bool) (s : State) : Res :=
  match s.clk.testing with
  | none => ok s
  | some l =>
    when (gladeRuns s) s fun s =>
      let t := { s with clk := { s.clk with testing := none } }
      if l = .xl2 ∧ obj t Obj.Xl2Fitted ≠ 1 then t
      else
        let u := if stable then passSource { t with clk := { t.clk with lf := if l.num < t.clk.lf.num then l else t.clk.lf } } l
          else
            let f := failLf t l
            raise { f with rtc := { f.rtc with bin := f.rtc.bin + lfGap } } 0x1201 ([l.num, f.clk.lf.num] ++ pl 4 122)
        if l = .xtal && xl2Wanted u then { u with clk := { u.clk with testing := some .xl2 } } else u

/-- A WRITE of `Xl2Fitted`: a fitted XL2 is start-tested (R98); an unfitted one is out of use at once, and the glade domain leaves it for the next healthy
source (R124). -/
def xl2Changed (s : State) : State :=
  if obj s Obj.Xl2Fitted = 1 then
    if xl2Wanted s && s.clk.testing.isNone then { s with clk := { s.clk with testing := some .xl2 } } else s
  else
    let t := { s with clk := { s.clk with
      passed := s.clk.passed.filter (· ≠ .xl2)
      testing := if s.clk.testing = some .xl2 then none else s.clk.testing
      watch := if s.clk.watch = some .xl2 then none else s.clk.watch } }
    if t.clk.lf = .xl2 then { t with clk := { t.clk with lf := nextLf t .xl2 } } else t

/-- The 32 MHz crystal becomes stable (R112). -/
def execHfCrystalStable (s : State) : Res :=
  when (coreUp s && decide (s.clk.cclk ≠ .stopped)) s fun s =>
    { s with clk := { s.clk with cclk := .xtal, mclk := true }, pw := { s.pw with hfFailed := false } }

/-- Hold `HfCorrection` within ±50 ppm (R110). -/
def setHf (s : State) (v : Int) : State :=
  let c := clampI (-500000) 500000 v
  let t := setI 4 s Obj.HfCorrection c
  if c = v then t else raise t 0x1206

/-- Crystal error in 0.0001 ppm of a gate count in 1/65536 MCLK periods over N LF periods, with the RTC rate correction r (Table 04.5). -/
def hfError (gate periods : Nat) (r : Int) : Int :=
  let e := 64000000 * (periods : Int) * (100000000 + r)
  roundDiv (((gate : Int) * 100000000 - e) * 10000000000) e

/-- The HF gate of one second ends at its second stamp (R109, R110, Table 04.5). -/
def execHfMeasurementDone (gate periods : Nat) (s : State) : Res :=
  when (s.clk.hfMeasuring && hfStamped s) s fun s =>
    let m := hfError gate periods (objI 4 s Obj.RtcTotalTrim)
    let t := setMany { s with clk := { s.clk with hfMeasuring := false, hfTick := some (ticks s), hfDie := some (objI 2 s Obj.DieTemperature) } }
      [(Obj.HfMeasured, fitI 4 8 m), (Obj.HfLastMeasureTime, t48 s)]
    if (m - objI 4 t Obj.HfCorrection).natAbs ≤ obj t Obj.HfStepLimit * 100 then
      setHf { t with clk := { t.clk with hfRejected := none } } m
    else
      match t.clk.hfRejected with
      | some p =>
        if (m - p).natAbs ≤ 5000 then setHf { t with clk := { t.clk with hfRejected := none } } m
        else raise { t with clk := { t.clk with hfRejected := some m } } 0x1205
      | none => raise { t with clk := { t.clk with hfRejected := some m } } 0x1205

/-- Ageing of the 32 MHz crystal at the noon pass (R107): 100 × `HfAgeingRate` / 365.25, rounded down, the remainder carried in 1/36525. -/
def hfAgeing (s : State) : State :=
  let a := s.clk.hfCarry + 10000 * objI 2 s Obj.HfAgeingRate
  let t := { s with clk := { s.clk with hfCarry := a % 36525 } }
  if a / 36525 = 0 then t else setHf t (objI 4 t Obj.HfCorrection + a / 36525)

/-- MCLK or LF time scaled by (1 − `HfCorrection`) when `HfMetrologyScale` is 1 (R106): numerator over 10¹⁰. -/
def hfScale (s : State) : Int := if obj s Obj.HfMetrologyScale = 1 then 10000000000 - objI 4 s Obj.HfCorrection else 10000000000

end Sys2Proof.Machine
end

