-- ==== Sys2Proof/Machine/Arbiter.lean ====
section
/-! DEFINITION. Sessions, tags, open sequences and port resets (chapters 01, 05), and the store front with its arbiter (chapter 07). -/

namespace Sys2Proof.Machine

/-- Does a waiter exist on the open sequence of a route slot (Table 07.2)? -/
def lockWaiter (s : State) (slot : Nat) : Bool :=
  decide (obj s Obj.ArbiterFreeze = 2) || decide (slot = 4) && match s.front.groveRefusal with
    | none => false
    | some t => decide (ticks s < t + 32768)

/-- Status codes (Table 05.5). -/
def stOk : Nat := 0x00
def stPending : Nat := 0x01
def stRetry : Nat := 0x10
def stBusy : Nat := 0x11
def stLockLost : Nat := 0x12
def stFrozen : Nat := 0x13
def stNoObject : Nat := 0x20
def stNoSub : Nat := 0x21
def stType : Nat := 0x22
def stRange : Nat := 0x23
def stReadOnly : Nat := 0x24
def stDenied : Nat := 0x25
def stSealed : Nat := 0x26
def stFull : Nat := 0x31
def stFault : Nat := 0x32
def stCrc : Nat := 0x40
def stFrame : Nat := 0x41

/-- A session at L0 (R142). -/
def Session.fresh (now : Nat) : Session := ⟨0, none, now, [], false⟩

/-- The session of a route; none recorded reads as a fresh one. -/
def session (s : State) (r : Route) : Session := mget s.ports.sessions r.num (Session.fresh 0)

/-- Store a session. -/
def setSession (s : State) (r : Route) (x : Session) : State :=
  { s with ports := { s.ports with sessions := mset s.ports.sessions r.num x } }

/-- Keep the response a route shows. -/
def putOut (s : State) (r : Route) (x : Resp) : State := { s with ports := { s.ports with out := mset s.ports.out r.num x } }

/-- The open sequence of a route, if it owns one. -/
def seqOf (s : State) (r : Route) : Option Seq :=
  match mfind s.ports.seqs r.slot with
  | none => none
  | some q => if q.owner = r then some q else none

/-- Store a route's sequence. -/
def setSeq (s : State) (r : Route) (q : Seq) : State := { s with ports := { s.ports with seqs := mset s.ports.seqs r.slot q } }

/-- Close a route slot's sequence. With the Grove link's ends the wait of a BEGIN refused on it (Table 07.2). -/
def closeSlot (s : State) (slot : Nat) : State :=
  { s with
    ports := { s.ports with seqs := mdel s.ports.seqs slot }
    front := { s.front with groveRefusal := if slot = 4 then none else s.front.groveRefusal } }

/-- Slot of a tag (R157: tags 0 to 3 of a route). -/
def tagSlot (r : Route) (tag : Nat) : Nat := r.num * 4 + tag

/-- Take a tag off the table. -/
def freeTag (s : State) (slot : Nat) : State := { s with ports := { s.ports with tags := mdel s.ports.tags slot } }

/-- Put a tag on the table. -/
def putTag (s : State) (slot : Nat) (x : TagUse) : State := { s with ports := { s.ports with tags := mset s.ports.tags slot x } }

/-- Hold a response under its tag, in order of readiness (R166, R537). A Grove peer's goes to the MAC, which queues it (R569). -/
def holdResp (s : State) (slot : Nat) (x : Resp) : State :=
  match mfind s.ports.tags slot with
  | none => s
  | some u =>
    match u.route with
    | .grove _ => putTag s slot { u with phase := .done x }
    | _ =>
      let t := putTag s slot { u with phase := .held s.ports.heldOrder x }
      let v := { t with ports := { t.ports with heldOrder := t.ports.heldOrder + 1 } }
      if u.route = .spi then irq v 5 else v

/-- Put a record among others in transaction order (R196). -/
def insertRec (r : Rec) (l : List Rec) : List Rec :=
  match l with
  | [] => [r]
  | h :: t => if txnAfter h.txn r.txn then r :: l else h :: insertRec r t

/-- The freeze has ended, so journal work that accesses served without a grant have caused goes to the writer (R244). -/
def releaseWork (s : State) : State :=
  { s with
    flash := { s.flash with commits := s.flash.heldRecs.foldl (fun l r => insertRec r l) s.flash.commits, heldRecs := [] }
    tally := { s.tally with eventQ := s.tally.eventQ ++ s.tally.heldEvents, heldEvents := [] } }

/-- Journal work that an access served without a grant causes waits until the freeze ends (R244): what `t` has queued beside `s`. -/
def deferWork (s t : State) : State :=
  if obj t Obj.ArbiterFreeze = 0 then t
  else
    let n := s.flash.commits.length
    let m := s.tally.eventQ.length
    { t with
      flash := { t.flash with commits := t.flash.commits.take n, heldRecs := t.flash.heldRecs ++ t.flash.commits.drop n }
      tally := { t.tally with eventQ := t.tally.eventQ.take m, heldEvents := t.tally.heldEvents ++ t.tally.eventQ.drop m } }

/-- Freeze or quiesce ends with its event (R246). -/
def endFreeze (s : State) : State :=
  raise (releaseWork (setObj { s with front := { s.front with freezeBy := none, freezeTicks := 0 } } Obj.ArbiterFreeze 0)) 0x4103

/-- End a route's session (R142, R146): L0, no challenge; a freeze it set ends (R246). An open sequence stays (R239). -/
def endSession (s : State) (r : Route) : State :=
  let x := session s r
  let t := setSession s r { x with level := 0, challenge := none }
  if t.front.freezeBy = some r ∧ obj t Obj.ArbiterFreeze ≠ 0 then endFreeze t else t

/-- Does a front entry stand for a host access whose tag is on the tag table? -/
def Act.isHost (a : Act) : Bool :=
  match a with
  | .host _ => true
  | _ => false

/-- `StoreTagsHeld` of a requester: its tags on the tag table and its other requests at the front. -/
def tagsHeld (s : State) (q : Requester) : Nat :=
  (s.ports.tags.filter (fun e => e.2.route.requester == q)).length
    + (s.front.waiting.filter (fun w => w.req == q && !w.act.isHost)).length
    + (match s.front.xfer with
      | none => 0
      | some x => if x.req = q && !x.act.isHost then 1 else 0)

/-- Shared pool in use (R247). -/
def sharedUsed (s : State) : Nat := (Requester.list.map (fun q => tagsHeld s q - q.reserved)).sum

/-- `SharedTagsFree`. -/
def sharedFree (s : State) : Nat := 13 - sharedUsed s

/-- May a requester take a new tag (R247, R241)? -/
def mayTakeTag (s : State) (q : Requester) : Bool :=
  decide (tagsHeld s q < obj s (Obj.StoreTagLimit q.sub)) && (decide (tagsHeld s q < q.reserved) || decide (0 < sharedFree s))

/-- Is the front frozen (R242)? -/
def frozen (s : State) : Bool := decide (obj s Obj.ArbiterFreeze = 1)

/-- Is a requester class U? -/
def classU (s : State) (q : Requester) : Bool := decide (obj s (Obj.StoreClass q.sub) = 1)

/-- Beats of a transfer of n bytes. -/
def beatsFor (n : Nat) : Nat := max 1 (ceilDiv n 8)

/-- The arrival sequence advances with each stamp (R226). -/
def advanceSeq (s : State) : State := { s with front := { s.front with seq := (s.front.seq + 1) % 256 } }

/-- Stamp a request at the front (R226). A waiting request is a work-pending flag (R111). -/
def enqueueFront (s : State) (q : Requester) (beats : Nat) (locked : Bool) (a : Act) : State :=
  let t := startCclk s
  advanceSeq { t with front := { t.front with waiting := t.front.waiting ++ [⟨q, t.front.seq, ticks t, beats, locked, a, false⟩] } }

/-- A Grove peer's access waits at its source, the radio MAC, without a stamp (R243, R248). -/
def sourceWait (s : State) (x : Sourced) : State := { s with front := { s.front with source := s.front.source ++ [x] } }

/-- The oldest access that waits at the radio MAC reaches the front once the front is not frozen and a tag is free (R243, R248). -/
def admitSource (s : State) : State :=
  match s.front.source with
  | [] => s
  | x :: rest =>
    let slot := tagSlot x.route x.f.tag.toNat
    if frozen s || !mayTakeTag s .mac || (mfind s.ports.tags slot).isSome then s
    else
      enqueueFront (putTag { s with front := { s.front with source := rest } } slot ⟨x.route, x.op, x.f, .running⟩) .mac x.beats x.locked (.host slot)

/-- Is every queue of Table 07.5 at its bound: work in the writer's hand with more behind it, staging, the latch FIFO, the tags, the event queue, the radio queues
and a request of each host port? -/
def queuesFull (s : State) : Bool :=
  s.flash.work.isSome && !s.flash.commits.isEmpty && decide (4 ≤ s.ports.seqs.length) && decide (4 ≤ s.tally.fifo.length)
    && decide (sharedFree s = 0) && decide (16 ≤ s.tally.eventQ.length) && decide (8 ≤ s.radio.txq.length) && decide (4 ≤ s.radio.inbox.length + s.front.source.length)
    && [Requester.spi, .lysef, .vicinity].all (fun q => s.front.waiting.any (fun w => w.req == q))

/-- Age of a waiting request (R227). -/
def ageOf (s : State) (w : Waiting) : Nat := min 127 ((s.front.seq + 256 - w.stamp) % 256)

/-- The better of two candidates (R228). -/
def better (s : State) (a b : Waiting) : Waiting :=
  if ageOf s a < ageOf s b then b else if ageOf s b < ageOf s a then a else if b.req.rank < a.req.rank then b else a

/-- The better of two candidates while every queue is at its bound (R253): the drain order first, then R228. -/
def betterFull (s : State) (a b : Waiting) : Waiting :=
  if a.req.drainRank < b.req.drainRank then a else if b.req.drainRank < a.req.drainRank then b else better s a b

/-- The choice among the waiting requests (R228, R229, R253). -/
def chooseFront (s : State) : Option Waiting :=
  let us := s.front.waiting.filter (fun w => classU s w.req)
  match (if us = [] then s.front.waiting else us) with
  | [] => none
  | w :: t => some (t.foldl (if queuesFull s then betterFull s else better s) w)

/-- May a grant start: the front not frozen, no arbiter configuration on its way (R240, R242)? -/
def mayGrant (s : State) : Bool := !frozen s && !pendingOf s .arbiter

/-- Start the chosen transfer (R230) and record its wait (R252). -/
def grantNext (s : State) : State :=
  if !mayGrant s then s
  else
    match chooseFront s with
    | none => s
    | some w =>
      let k := Obj.LongestWait w.req.sub
      let t := setObj s k (max (obj s k) ((ticks s - w.since) % 2 ^ 32))
      { t with front := { t.front with
          waiting := t.front.waiting.erase w
          xfer := some ⟨w.req, w.beats, w.locked, w.act⟩ } }

/-- A request reaches the store front (R226), or it is refused (R243, R247, R248). -/
def execStoreRequest (q : Requester) (bytes : Nat) (change : Option (Nat × Nat)) (locked : Bool) (s : State) : Res :=
  when (coreUp s) s fun s =>
    let t := startCclk s
    let refuse := fun (u : State) (st : Nat) => match q.host with
      | none => u
      | some r => putOut u r ⟨st, 0, 0, 0, []⟩
    if frozen t then refuse t stFrozen
    else if !mayTakeTag t q then refuse (bump t (Obj.TagRefusals q.sub)) stBusy
    else enqueueFront t q (beatsFor bytes) locked (match change with
      | none => .none
      | some e => .setKey e.1 e.2)

/-- At a beat boundary with no transfer in progress the arbiter grants the waiting request of greatest age, class U first (R228, R230); what waits at its source
has reached the front by then where it could (R243, R248). -/
def execStoreGrant (s : State) : Res := when (coreUp s && s.front.xfer.isNone) s fun s => grantNext (admitSource s)

/-- A revoked transfer (R231 to R234): the image is unchanged; a host port's access sees RETRY, the radio MAC (a Grove peer's access included) and the repair
agent keep their tag and request again. -/
def revoke (s : State) (x : Xfer) : State :=
  let t := bump { s with front := { s.front with xfer := none } } (Obj.PreemptCount x.req.sub)
  match x.act with
  | .host slot => match mfind t.ports.tags slot with
    | none => t
    | some u =>
      if x.req.host.isNone then enqueueFront t x.req x.beats x.locked x.act
      else holdResp t slot ⟨stRetry, u.f.tag.toNat, u.f.index.toNat, u.f.sub.toNat, []⟩
  | a => match x.req.host with
    | some r => putOut t r ⟨stRetry, 0, 0, 0, []⟩
    | none => enqueueFront t x.req x.beats x.locked a

/-- A waiting class U request revokes an unlocked class N transfer (R231). -/
def execStorePreempt (s : State) : Res :=
  match s.front.xfer with
  | none => ok s
  | some x =>
    when (!classU s x.req && !x.locked && s.front.waiting.any (fun w => classU s w.req)) s fun s => grantNext (revoke s x)

/-- A store grant held longer than 128 beats is revoked and logged with the requester (R262). -/
def execArbWatchdog (s : State) : Res :=
  match s.front.xfer with
  | none => ok s
  | some x => when (decide (128 < x.beats)) s fun s => raise (revoke s x) 0x4106 [x.req.sub]

/-- Has a waiting request of a requester passed `LongWaitThreshold` without being logged (R252)? -/
def longWaiting (s : State) (q : Requester) (w : Waiting) : Bool :=
  decide (w.req = q) && !w.longLogged && decide (obj s Obj.LongWaitThreshold * 32768 < (ticks s - w.since) * 1000)

/-- Mark the first request of a list that has waited too long. -/
def markLong (s : State) (q : Requester) (l : List Waiting) : List Waiting :=
  match l with
  | [] => []
  | w :: t => if longWaiting s q w then { w with longLogged := true } :: t else w :: markLong s q t

/-- A store request that has waited longer than `LongWaitThreshold` is logged once, with the requester (R252): one event for each such request. -/
def execArbLongWait (q : Requester) (s : State) : Res :=
  when (s.front.waiting.any (longWaiting s q)) s fun s =>
    raise { s with front := { s.front with waiting := markLong s q s.front.waiting } } 0x4104 [q.sub]

/-- Has a COMMIT of a route slot's owner, or the LAST form of one (R159), reached the core and not ended (R260)? -/
def commitInCore (s : State) (r : Route) : Bool :=
  s.ports.tags.any (fun e => decide (e.2.route = r) && decide (e.2.phase = .running)
    && (decide (e.2.op = .commit) || (decide (e.2.op = .write) || decide (e.2.op = .exec)) && e.2.f.flags.getLsbD 0 && e.2.f.flags.getLsbD 1))

/-- The LockLimit count of a route's sequence reaches `LockLimit` while a waiter exists (R237); the owner's COMMIT wins when it is in the core (R260). -/
def execLockExpired (r : Route) (s : State) : Res :=
  match mfind s.ports.seqs r.slot with
  | none => ok s
  | some q =>
    when (lockWaiter s r.slot && decide (obj s Obj.LockLimit * 32768 ≤ q.lockTicks * 1000) && !commitInCore s q.owner) s fun s =>
      raise (bump (closeSlot s r.slot) Obj.LockExpiredCount) 0x4101

/-- Under quiesce the last open sequence ends, so the front moves to freeze (R242). -/
def execQuiesceToFreeze (s : State) : Res :=
  when (decide (obj s Obj.ArbiterFreeze = 2) && s.ports.seqs.isEmpty) s fun s => setObj s Obj.ArbiterFreeze 1

/-- `FreezeLimit` passes in core time after a freeze or quiesce write (R246). -/
def execFreezeExpired (s : State) : Res :=
  when (decide (obj s Obj.ArbiterFreeze ≠ 0) && decide (obj s Obj.FreezeLimit * 32768 ≤ s.front.freezeTicks * 1000)) s endFreeze

/-- At the first beat boundary with no transfer in progress the new classes and tag limits apply (R240). -/
def execArbConfigApplied (s : State) : Res :=
  when (pendingOf s .arbiter && s.front.xfer.isNone) s fun s => raise (applyPend s .arbiter) 0x4105

/-- A write of `ArbiterFreeze` (R242); 0 lets the held journal work go (R244). -/
def setFreeze (s : State) (r : Route) (v : Nat) : State :=
  let t := setObj { s with front := { s.front with freezeBy := if v = 0 then none else some r, freezeTicks := 0 } } Obj.ArbiterFreeze v
  if v = 0 then releaseWork t else t

/-- `ArbiterStatsClear` (Table 07.6). -/
def clearStats (s : State) : State :=
  setMany s ([1, 2, 3, 4, 5, 6].flatMap (fun i => [(Obj.PreemptCount i, 0), (Obj.TagRefusals i, 0), (Obj.LongestWait i, 0)])
    ++ [1, 2, 3, 4].map (fun i => (Obj.TimerPreemptCount i, 0)))

/-- Free every tag of a route and discard its held responses and waiting requests, those of its port among them (R27, R256). -/
def dropTags (s : State) (r : Route) : State :=
  let mine := fun (q : Requester) (a : Act) => match a with
    | .host slot => decide (slot / 4 = r.num)
    | _ => decide (q.host = some r)
  { s with
    ports := { s.ports with tags := s.ports.tags.filter (fun e => decide (e.2.route ≠ r)), out := mdel s.ports.out r.num }
    front := { s.front with
      waiting := s.front.waiting.filter (fun w => !mine w.req w.act)
      source := s.front.source.filter (fun w => decide (w.route ≠ r))
      xfer := match s.front.xfer with
        | none => none
        | some x => if mine x.req x.act && !x.locked then none else some x } }

/-- The core actions of a route's port reset (R27, R142, R246, R261): held responses, tags, session, lock. -/
def resetRoute (s : State) (r : Route) : State :=
  let t := endSession (dropTags s r) r
  match seqOf t r with
  | none => t
  | some _ => raise (closeSlot t r.slot) 0x4102

/-- A port reset of a host port (R120, R122): R27, its count, and the port side held until its release (R121). -/
def resetPort (s : State) (p : Port) : State :=
  let t := bump (resetRoute (startCclk s) p.route) (Obj.PortResetCount p.route.num)
  let u := { t with ports := { t.ports with inReset := mset t.ports.inReset p.route.num true } }
  match p with
  | .vicinity => { u with ports := { u.ports with vic := .powerOff } }
  | .lysef => { u with ly := { u.ly with tracker := false } }
  | .spi => u

/-- No access frame has arrived on a route for `SessionIdleLimit` (R146). -/
def execSessionIdleExpiry (r : Route) (s : State) : Res :=
  when (decide (0 < (session s r).level) || (session s r).challenge.isSome) s fun s =>
    if obj s Obj.SessionIdleLimit * 32768 ≤ ticks s - (session s r).lastTick then endSession s r else s

/-- `AuthLockoutTime` expires and `AuthResponse` is checked again on the route (R147). -/
def execAuthLockoutEnd (r : Route) (s : State) : Res :=
  let last := ((session s r).fails.getLast?.map (·.2)).getD 0
  when ((session s r).locked && decide (last + obj s Obj.AuthLockoutTime * 32768 ≤ ticks s)) s fun s =>
    setSession s r { session s r with locked := false, fails := [] }

/-- Is the part in a state in which no port answers: unpowered, in chip reset, or held by TEST (R60)? -/
def portsDead (s : State) : Bool := decide (s.pw.mode = .off) || decide (s.pw.mode = .chipReset) || decide (s.pw.mode = .testHold)

/-- The port side of a port reset is released on its port edge (R121): a vicinity field that starts the port puts it in Ready and is counted (R559, R560);
a Lysef sync cell loads the cell tracker, and its rate is seen (R499). The Lysef master holds its slave engine in reset (R21). -/
def execPortResetRelease (p : Port) (cellRate : Nat) (s : State) : Res :=
  when (mget s.ports.inReset p.route.num false && !portsDead s && !(decide (p = .lysef) && s.lm.running)) s fun s =>
    let t := { s with ports := { s.ports with inReset := mset s.ports.inReset p.route.num false } }
    match p with
    | .vicinity => bump { t with ports := { t.ports with vic := .ready }, pw := { t.pw with field := true } } Obj.VicinityFieldCount
    | .lysef => setObj { t with ly := { t.ly with tracker := true, cell := (roundDiv 1000000000 cellRate).toNat } } Obj.LysefCellRateSeen (cellRate % 65536)
    | .spi => t

end Sys2Proof.Machine
end

