-- ==== Sys2Proof/Machine/Timer.lean ====
section
/-! DEFINITION. The interval timer and its arbiter (chapters 07 and 08): grants, calibration of the vernier pairs, hits, the FIN measurement. -/

namespace Sys2Proof.Machine

/-- The active pairs (R267, Table 08.7), ascending. -/
def tdcActive (s : State) : List Nat := [0, 1, 2].filter (fun p => decide (obj s (Obj.TdcPairState (p + 1)) = 0))

/-- Did a pair pass its calibration in the current batch? -/
def calOk (s : State) (p : Nat) : Bool :=
  match mfind s.tdc.cals p with
  | none => false
  | some c => c.ok

/-- The active pairs that passed in the current batch: two, or one in single-pair mode (R285, R287). -/
def usablePairs (s : State) : List Nat := (tdcActive s).filter (calOk s)

/-- The pair that takes hit k (R267, R287). -/
def pairFor (s : State) (k : Nat) : Option Nat :=
  match usablePairs s with
  | [] => none
  | [p] => some p
  | p :: q :: _ => if k % 2 = 0 then some p else some q

/-- Sub-index of a timer requester (Table 07.3). -/
def timerSub (q : TimerReq) : Nat :=
  match q with
  | .sequencer => 1
  | .temperature => 2
  | .frequency => 3
  | .pulse => 4

/-- Age of a waiting timer request (R227, R249). -/
def timerAge (s : State) (stamp : Nat) : Nat := min 127 ((s.tdc.seq + 256 - stamp) % 256)

/-- The better of two waiting timer requests (R228, R250): the sequencer is class U; then age; then the sub order. -/
def betterTimer (s : State) (a b : TimerReq × Nat) : TimerReq × Nat :=
  if a.1 = .sequencer then a else if b.1 = .sequencer then b
  else if timerAge s a.2 < timerAge s b.2 then b else if timerAge s b.2 < timerAge s a.2 then a
  else if timerSub b.1 < timerSub a.1 then b else a

/-- The choice of the timer arbiter. -/
def chooseTimer (s : State) : Option TimerReq :=
  match s.tdc.waiting with
  | [] => none
  | w :: t => some (t.foldl (betterTimer s) w).1

/-- Take a request off the arbiter. -/
def dropTimer (s : State) (q : TimerReq) : State :=
  { s with tdc := { s.tdc with waiting := s.tdc.waiting.filter (fun w => decide (w.1 ≠ q)) } }

/-- Start the chosen grant (R272, Table 08.3 step 2); a discharge drives TCOM low (chapter 11). -/
def beginGrant (s : State) (epoch : Nat) : State :=
  match chooseTimer s with
  | none => s
  | some q =>
    let t := dropTimer s q
    let k := if q = .frequency then stampDue t else none
    { t with
      tdc := { t.tdc with grant := some ⟨q, k, [], false, false, [], none, epoch⟩, owed := t.tdc.owed.filter (fun e => decide (some e.1 ≠ k)) }
      pads := { t.pads with tcomLow := decide (q = .temperature) } }

/-- Is a new batch due: none runs, or the last calibration is more than 5 ms old (R270, R291)? -/
def batchDue (s : State) : Bool := !s.tdc.batch || decide (5 * 32768 < (ticks s - s.tdc.calTick) * 1000)

/-- Pairs with a retest under way (R289). -/
def retesting (s : State) : List Nat := s.tdc.retest.map (·.1)

/-- The lowest spare pair (Table 08.7). -/
def sparePair (s : State) : Option Nat := [0, 1, 2].find? (fun q => decide (obj s (Obj.TdcPairState (q + 1)) = 1))

/-- `TdcMargin` follows the spare pairs. -/
def setMargin (s : State) : State :=
  let n := ([1, 2, 3].filter (fun p => decide (obj s (Obj.TdcPairState p) = 1))).length
  (commitObjs s [(Obj.TdcMargin, min 1 n)]).2

/-- A batch begins with fewer than two active pairs and a spare: the spare is made active, as R286 makes it when a pair retires (log entry 22). -/
def fillActive (s : State) : State :=
  match sparePair s with
  | none => s
  | some q => if (tdcActive s).length < 2 then setMargin (commitObjs s [(Obj.TdcPairState (q + 1), 0)]).2 else s

/-- The timer arbiter grants the timer to a waiting request, or first begins a batch with its calibration (R249, R269, R270); with the timer unavailable
only a retest or a spare pair begins a batch (R288, R289; log entry 22). -/
def execTimerGrant (epoch : Nat) (s : State) : Res :=
  let mode2 := decide (obj s Obj.TdcMode = 2)
  let asked := if mode2 then !s.tdc.retest.isEmpty || (sparePair s).isSome else !s.tdc.waiting.isEmpty
  when (isFull s && !s.pw.hfFailed && !s.tdc.calibrating && s.tdc.grant.isNone && asked) s fun s =>
    let t := startCclk { s with clk := { s.clk with mclk := true } }
    if mode2 || batchDue t then
      let u := fillActive t
      { u with tdc := { u.tdc with calibrating := true, batch := true, retried := false, cals := [] } }
    else beginGrant t epoch

/-- Does a calibration of a pair pass (R271)? -/
def calPasses (m : Nat) (c : CalSums) : Bool :=
  decide (c.s1 + 2790 * m ≤ c.s2) && decide (c.s2 ≤ c.s1 + 3510 * m) && decide (c.spread1 ≤ 6) && decide (c.spread2 ≤ 6)

/-- Keep a pair's calibration; the step size of one that passes (R264). -/
def keepCal (m : Nat) (s : State) (e : Nat × CalSums) : State :=
  let okc := calPasses m e.2
  let t := { s with tdc := { s.tdc with cals := mset s.tdc.cals e.1 ⟨e.2.s1, e.2.s2, m, okc⟩ } }
  if okc then setObj t (Obj.TdcStepSize (e.1 + 1)) (roundDiv (m * 31250000) ((e.2.s2 : Int) - e.2.s1)).toNat else t

/-- Set `TdcMode`; its return to 0 clears `ErrorFlags` bit [10] (Table 14.7). -/
def setTdcMode (s : State) (m : Nat) : State :=
  let t := (commitObjs s [(Obj.TdcMode, m)]).2
  if m = 0 then clrErr t 10 else t

/-- Retire a pair (R286, R287): its failure count, the swap to the spare, or the single-pair mode. -/
def retirePair (s : State) (p : Nat) : State :=
  let t := { s with tdc := { s.tdc with failRun := mdel s.tdc.failRun p, pairLost := s.acou.running } }
  let u := (commitObjs t [(Obj.TdcPairState (p + 1), 2), (Obj.TdcCalFailCount (p + 1), (obj t (Obj.TdcCalFailCount (p + 1)) + 1) % 2 ^ 32)]).2
  match sparePair u with
  | some q => raise (setMargin (commitObjs u [(Obj.TdcPairState (q + 1), 0)]).2) 0x2002 [p, q]
  | none => if tdcActive u = [] then u else raise (setTdcMode u 1) 0x2003

/-- Book a batch for an active pair (R286). -/
def judgePair (s : State) (p : Nat) : State :=
  if calOk s p then { s with tdc := { s.tdc with failRun := mdel s.tdc.failRun p } }
  else
    let n := mget s.tdc.failRun p 0 + 1
    if 3 ≤ n then retirePair s p else { s with tdc := { s.tdc with failRun := mset s.tdc.failRun p n } }

/-- A retired pair under retest (R289): a failure ends the retest; the 16th pass makes it spare and raises `TdcMargin`. -/
def judgeRetest (s : State) (p : Nat) : State :=
  let n := mget s.tdc.retest p 0
  if !calOk s p then { s with tdc := { s.tdc with retest := mdel s.tdc.retest p } }
  else if n ≤ 1 then
    let t := { s with tdc := { s.tdc with retest := mdel s.tdc.retest p } }
    setMargin (commitObjs t [(Obj.TdcPairState (p + 1), 1)]).2
  else { s with tdc := { s.tdc with retest := mset s.tdc.retest p (n - 1) } }

/-- Where the integration interval of a cycle starting now would begin (R335): the later of the last cycle start and the last tick that ran no cycle. -/
def intervalFrom (last noCycle : Option Nat) : Option Nat :=
  match last, noCycle with
  | none, _ => none
  | some a, none => some a
  | some a, some b => some (max a b)

/-- Is the flow configured (R347)? -/
def flowConfigured (s : State) : Bool :=
  decide (obj s Obj.FlowArea ≠ 0) && subs4.all (fun p => decide (obj s (Obj.PathEnable p) = 0)
    || (decide (obj s (Obj.PathLength p) ≠ 0) && decide (obj s (Obj.PathAxial p) ≠ 0)))

/-- Count an interval that is not integrated (R336); nothing while the flow is not configured (R347). -/
def unmeasured (s : State) (start : Option Nat) (stop : Nat) : State :=
  match start with
  | none => s
  | some a => if flowConfigured s then { s with accs := { s.accs with unmeasured := s.accs.unmeasured + (stop - a) } } else s

/-- Abandon the cycle that runs (R29, R313, R336): no result for any path, the loops unchanged, ABANDONED, its interval unmeasured; it is one of the 64 cycles
of a zero calibration, without a result (R340). -/
def abandonCycle (s : State) : State :=
  if !s.acou.running then s
  else
    let t := unmeasured s (intervalFrom s.acou.prevStart s.acou.lastNoCycle) (s.acou.cycleStart.getD 0)
    objBit (dropTimer { t with
      flow := { t.flow with
        zeroCal := t.flow.zeroCal.map (fun z => { z with left := z.left - 1 })
        collect := t.flow.collect.map (fun c => if c.started then { c with cycles := c.cycles + 1 } else c) }
      acou := { t.acou with running := false, plan := [], shots := [], heldTick := false }
      pads := { t.pads with vdrv := false } } .sequencer) Obj.CycleStatus 1 true

/-- No pair passes calibration (R288): the timer is unavailable; every requester acts as for a missing timer (R315, R386). -/
def timerLost (s : State) : State :=
  let t := { s with
    tdc := { s.tdc with grant := none, waiting := [], batch := false, owed := [] }
    temp := { s.temp with conv := none }
    clk := { s.clk with hfMeasuring := false }
    pulse := { s.pulse with stamping := none } }
  let u := abandonCycle t
  if obj u Obj.TdcMode = 2 then u else raise (setTdcMode u 2) 0x2004

/-- The batch calibration has been judged (R272, R286 to R289). -/
def finishCal (s : State) (epoch : Nat) (active retest : List Nat) : State :=
  let t := { s with tdc := { s.tdc with calibrating := false, retried := false, calTick := ticks s } }
  let u := retest.foldl judgeRetest (active.foldl judgePair t)
  if !active.any (calOk t) && usablePairs u = [] then timerLost u
  else
    let n := (tdcActive u).length
    let m := obj u Obj.TdcMode
    let v := if m ≠ 0 ∧ 2 ≤ n then setTdcMode u 0 else if m = 2 then setTdcMode u 1 else u
    if usablePairs v = [] then { v with tdc := { v.tdc with batch := false } } else beginGrant v epoch

/-- A batch calibration ends (R271, R272, R285 to R289): the sums are given per pair. A pair that fails while a grant waits is calibrated once more. -/
def execTdcCalibrationEnd (epoch : Nat) (pair0 pair1 pair2 : CalSums) (s : State) : Res :=
  when s.tdc.calibrating s fun s =>
    let sums := [(0, pair0), (1, pair1), (2, pair2)]
    let active := tdcActive s
    let now := if s.tdc.retried then active.filter (fun p => !calOk s p) else active ++ retesting s
    let t := (sums.filter (fun e => now.contains e.1)).foldl (keepCal (obj s Obj.TdcCalAverage)) s
    if !s.tdc.retried && active.any (fun p => !calOk t p) && !t.tdc.waiting.isEmpty then { t with tdc := { t.tdc with retried := true } }
    else finishCal t epoch active (retesting s)

/-- Hits a grant of a requester takes (Table 08.2, R275, R298, R300, R413): `ZcHits` for a tone shot, two pulse edges, one for every other. -/
def hitsWanted (s : State) (q : TimerReq) : Nat :=
  match q with
  | .sequencer => if obj s Obj.BurstStyle = 0 then obj s Obj.ZcHits else 1
  | .pulse => 2
  | _ => 1

/-- The result of a conversion (R264). -/
def hitResult (c : PairCal) (pair coarse n : Nat) : Hit :=
  let k : Int := 4294967296 / ((c.s2 : Int) - c.s1)
  let f := ((c.s2 : Int) - c.m * n) * k / 65536
  if f < 0 then ⟨true, false, pair, n, coarse - 2, 0⟩
  else if f ≤ 65535 then ⟨true, false, pair, n, coarse - 2, f.toNat⟩
  else ⟨true, false, pair, n, coarse - 1, 0⟩

/-- Hold-off of a requester's input in MCLK periods (R274, R279). -/
def holdOffOf (s : State) (q : TimerReq) : Nat := if q = .frequency then obj s Obj.FinHoldOff else 0

/-- Hit time in T/65 536 (Table 08.1). -/
def hitTime (h : Hit) : Nat := h.coarse * 65536 + h.fraction

/-- How far two stamps together may miss the true spacing of their hits, in T/65 536: one step of at most 11.2 ps each (R271; log entry 89). -/
def stampSlack : Nat := 47

/-- The result that a hit with its latched counts has on a pair (R264). -/
def resultOn (s : State) (p coarse n : Nat) : Hit := hitResult (mget s.tdc.cals p ⟨0, 0, 0, false⟩) p coarse (n % 65536)

/-- Is a hit time inside the hold-off after the last accepted hit (R274)? -/
def heldOff (s : State) (g : Grant) (time : Nat) : Bool :=
  match g.lastHit with
  | none => false
  | some l => decide (time + stampSlack < l + holdOffOf s g.req * 65536)

/-- Is a pair still converting at a hit time: 1.8 µs, which are 57.6 T, from its last hit (Table 08.5, R268; log entry 89)? -/
def pairBusy (g : Grant) (p time : Nat) : Bool :=
  match mfind g.lastOn p with
  | none => false
  | some l => decide ((time - l + stampSlack) * 10 < 576 * 65536)

/-- Take a hit into a grant (R267, R268, R274). -/
def takeHit (s : State) (g : Grant) (coarse n : Nat) : State :=
  match pairFor s g.hits.length with
  | none => s
  | some p =>
    let h := resultOn s p coarse n
    if heldOff s g (hitTime h) then s
    else if pairBusy g p (hitTime h) then bump { s with tdc := { s.tdc with grant := some { g with close := true } } } Obj.TdcCloseHitCount
    else { s with tdc := { s.tdc with grant := some { g with
        hits := g.hits ++ [h], lastOn := mset g.lastOn p (hitTime h), lastHit := some (hitTime h) } } }

/-- A hit arrives with its latched coarse count and raw vernier count (R264, R267, R268, R274); at 2²⁰ the overflow wins (R281). -/
def execTdcHit (coarse count : Nat) (s : State) : Res :=
  match s.tdc.grant with
  | none => ok s
  | some g =>
    when (decide (2 ≤ coarse) && decide (coarse < 2 ^ 20) && decide (g.hits.length < hitsWanted s g.req)) s fun s => takeHit s g coarse count

/-- A result word (Table 08.1). -/
def resultWord (e : Nat × Hit) : Nat :=
  let h := e.2
  (if h.valid then 2 ^ 63 else 0) + (if h.ovf then 2 ^ 62 else 0) + h.pair % 4 * 2 ^ 56 + e.1 % 8 * 2 ^ 52 + h.n % 65536 * 2 ^ 36
    + h.coarse % 2 ^ 20 * 65536 + h.fraction % 65536

/-- `TdcSnapshot` of a grant (Table 08.8). -/
def snapshotBytes (s : State) (g : Grant) (revoked : Bool) : List Byte :=
  let us := usablePairs s
  let even := us.head?.getD 0
  let odd := us.getLast?.getD 0
  let ce := mget s.tdc.cals even ⟨0, 0, 0, false⟩
  let co := mget s.tdc.cals odd ⟨0, 0, 0, false⟩
  let hits := if revoked then [] else g.hits
  let st := (if g.close then 1 else 0) + (if g.ovf then 2 else 0) + (if revoked then 4 else 0) + (if us.length = 1 then 8 else 0)
  padTo 80 0 (([timerSub g.req, st, hits.length, ce.m, even, odd].map (BitVec.ofNat 8))
    ++ bytesOf 2 ce.s1 ++ bytesOf 2 ce.s2 ++ bytesOf 2 co.s1 ++ bytesOf 2 co.s2 ++ [0, 0]
    ++ ((List.range hits.length).zip hits).flatMap (fun e => bytesOf 8 (resultWord e)))

/-- Capture a grant that `TdcSnapshotArm` armed (Table 08.7). -/
def captureGrant (s : State) (g : Grant) (revoked : Bool) : State :=
  if s.tdc.arm = some (timerSub g.req) then { s with tdc := { s.tdc with arm := none, snapshot := snapshotBytes s g revoked } } else s

/-- `TdcSnapshotArm` (Table 08.7): byte 2 of the snapshot reads 0 until a capture completes. -/
def armSnapshot (s : State) (v : Nat) : State := { s with tdc := { s.tdc with arm := some v, snapshot := s.tdc.snapshot.set 2 0 } }

/-- A `FinInterval` tick with `FinEnable` set (R275, Table 08.4). -/
def execFinMeasurementStart (s : State) : Res :=
  when (isFull s && decide (obj s Obj.FinEnable = 1) && s.tdc.fin.isNone) s fun s =>
    let t := startCclk s
    requestTimer { t with clk := { t.clk with mclk := true }, tdc := { t.tdc with fin := some ⟨ticks t, none, none, 0⟩ } } .frequency

/-- The gate time after hit 0 passes (R275): an arm grant is requested for hit 1. -/
def execFinGateEnd (s : State) : Res :=
  match s.tdc.fin with
  | none => ok s
  | some f =>
    when (f.t0.isSome && f.gateTick.isNone) s fun s =>
      requestTimer { s with tdc := { s.tdc with fin := some { f with gateTick := some (ticks s) } } } .frequency

/-- End a FIN measurement without a result (R280, R283); a grant or request of the measurement goes with it. -/
def endFin (s : State) : State :=
  let t := { s with tdc := { s.tdc with fin := none } }
  let u := if (stampDue t).isSome then t else dropTimer t .frequency
  match u.tdc.grant with
  | none => u
  | some g => if g.req = .frequency && g.stamp.isNone then { u with tdc := { u.tdc with grant := none } } else u

/-- Has 20 s passed since the measurement's start without hit 0, or since the gate without hit 1 (R280)? -/
def finLate (s : State) (f : FinRun) : Bool :=
  match f.t0, f.gateTick with
  | none, _ => decide (20 * 32768 ≤ ticks s - f.start)
  | some _, some g => decide (20 * 32768 ≤ ticks s - g)
  | some _, none => false

/-- No signal on FIN (R280): logged once per change of status. -/
def execFinNoSignal (s : State) : Res :=
  match s.tdc.fin with
  | none => ok s
  | some f =>
    when (finLate s f) s fun s =>
      let t := endFin s
      if obj t Obj.FinStatus = 1 then t else raise (setObj t Obj.FinStatus 1) 0x2006

/-- Prescale factor of FIN. -/
def finPrescale (s : State) : Nat := 8 ^ min 2 (obj s Obj.FinPrescaler) * (if obj s Obj.FinPrescaler = 3 then 4 else 1)

/-- `FinFrequency` (R276), scaled under R106: P × E × 32 000 000 × 2¹⁶ / Δ as Q32.32. -/
def finFrequency (s : State) (edges delta : Nat) : Nat :=
  fitN 8 9 (roundDiv ((finPrescale s : Int) * edges * 32000000 * 2 ^ 48 * hfScale s) ((delta : Int) * 10000000000))

/-- Prescaled edges counted between two stamps: with a hold-off of H on FIN at most one per H MCLK periods (R279). -/
def finEdges (s : State) (edges delta : Nat) : Nat :=
  let h := obj s Obj.FinHoldOff
  if h = 0 then edges else min edges ((delta + stampSlack) / (h * 65536))

/-- An arm grant of the FIN measurement ends (R275, R276): hit 0, hit 1 with the edges counted, or no hit. -/
def finGrantEnd (s : State) (g : Grant) (edges : Nat) : State :=
  match s.tdc.fin with
  | none => s
  | some f =>
    match g.hits.head? with
    | none => requestTimer { s with tdc := { s.tdc with fin := some { f with revoked := 0 } } } .frequency
    | some h =>
      if !h.valid then requestTimer { s with tdc := { s.tdc with fin := some { f with revoked := 0 } } } .frequency
      else
        let t := g.epoch * 65536 + hitTime h
        match f.t0 with
        | none => { s with tdc := { s.tdc with fin := some { f with t0 := some t, revoked := 0 } } }
        | some t0 =>
          setMany { s with tdc := { s.tdc with fin := none } }
            [(Obj.FinFrequency, finFrequency s (finEdges s edges (t - t0)) (t - t0)), (Obj.FinMeasureTime, t48 s), (Obj.FinStatus, 0)]

/-- An arm grant is revoked (R275, R283): requested again at once; the fourth in a row ends the measurement as starved. -/
def finRevoked (s : State) : State :=
  match s.tdc.fin with
  | none => s
  | some f =>
    if 4 ≤ f.revoked + 1 then raise (setObj (endFin s) Obj.FinStatus 2) 0x2005
    else requestTimer { s with tdc := { s.tdc with fin := some { f with revoked := f.revoked + 1 } } } .frequency

end Sys2Proof.Machine
end

