-- ==== Sys2Proof/Machine/Acoustic.lean ====
section
/-! DEFINITION. Acoustic paths (chapter 09): shots and their verdicts, the gain and threshold loops, the sequencer, the transducer check. -/

namespace Sys2Proof.Machine

/-- D of R294: the divider of a centre frequency in Hz. -/
def dividerOf (f : Nat) : Int := roundDiv 8000000 f

/-- D in force. -/
def divider (s : State) : Nat := (dividerOf (obj s Obj.CentreFrequency)).toNat

/-- `CentreFrequencyActual` of a centre frequency (R294). -/
def actualFrequency (f : Nat) : Nat := if dividerOf f = 0 then 0 else (8000000 / dividerOf f).toNat

/-- Template length L of burst settings (Table 09.1). -/
def templateLength (style chip chirp : Nat) : Nat :=
  if style = 1 then 28 * chip else if style = 2 then 52 * chip else if style = 3 then 4 * chirp else 0

/-- L in force. -/
def tapCount (s : State) : Nat := templateLength (obj s Obj.BurstStyle) (obj s Obj.ChipCycles) (obj s Obj.ChirpCycles)

/-- Tap i of the template the burst settings generate: a signed 8-bit number (R300), the manual's own and not printed (R302, log entry 6). -/
def generatedTap (s : State) (i : Nat) : Int :=
  (BitVec.ofInt 8 (Config.templateTap (obj s Obj.BurstStyle) (obj s Obj.ChipCycles) (obj s Obj.ChirpCycles) (obj s Obj.ChirpSweep) i)).toInt

/-- The template in force (R302). -/
def templateTaps (s : State) : List Int :=
  if obj s Obj.TemplateSource = 1 ∧ s.acou.captured then padTo (tapCount s) 0 s.acou.template
  else (List.range (tapCount s)).map (generatedTap s)

/-- `Template` as read: signed bytes, 256 of them. -/
def templateBytes (s : State) : List Byte := padTo 256 0 ((templateTaps s).map (fun t => BitVec.ofInt 8 t))

/-- What an unlisted path's loop reads as: in acquisition (R323). -/
def PathLoop.fresh : PathLoop := ⟨0, 0, 0, 0, true, 0, 0, 0, 0, 0, 0, false, 0, 0⟩

/-- Loop of path p, 0 to 3. -/
def loopOf (s : State) (p : Nat) : PathLoop := mget s.acou.loops p .fresh

/-- Store it. -/
def setLoop (s : State) (p : Nat) (l : PathLoop) : State := { s with acou := { s.acou with loops := mset s.acou.loops p l } }

/-- Put a path into acquisition. -/
def acquire (s : State) (p : Nat) : State := objBit (setLoop s p { loopOf s p with acquiring := true }) (Obj.PathStatus (p + 1)) 7 true

/-- Expected shot time of a path and direction in T/65 536: `TransitNominal` during acquisition (ns × 65 536 / 31.25). -/
def texp (s : State) (p : Nat) (up : Bool) : Int :=
  let l := loopOf s p
  if l.acquiring then roundDiv ((obj s (Obj.TransitNominal (p + 1)) : Int) * 65536 * 4) 125
  else if up then l.texpUp else l.texpDown

/-- Stride q of R298: ⌈s × fc⌉ with s = 0.9 µs, or 1.8 µs in single-pair mode, fc = 8 MHz / D. -/
def stride (s : State) : Nat := ceilDiv (if s.acou.singleStride then 144 else 72) (10 * divider s)

/-- Where the sampler window of a shot opens, in T/65 536 after the launch (R296): in coded mode at t_w = t_exp − 64/fs, in tone mode where the threshold
comparator arms, t_exp − 2/fc. One sample is D MCLK periods, one period of fc four of them. -/
def windowOpen (s : State) (p : Nat) (up : Bool) : Int :=
  texp s p up - (if obj s Obj.BurstStyle = 0 then 8 else 64) * (divider s * 65536 : Nat)

/-- Samples in the window of a shot (R296): all 1024 in acquisition; in tracking 64 + S + L in coded mode, and in tone mode those up to 1 µs after the last
hit, where all its hits came. -/
def windowLength (s : State) (p : Nat) (up : Bool) (hits : List Hit) : Nat :=
  if (loopOf s p).acquiring then 1024
  else if obj s Obj.BurstStyle ≠ 0 then min 1024 (64 + obj s Obj.CorrSpan + tapCount s)
  else
    match (hits.filter (·.valid)).getLast? with
    | none => 1024
    | some h =>
      if (hits.filter (·.valid)).length < obj s Obj.ZcHits then 1024
      else min 1024 (((hitTime h + 32 * 65536 : Nat) - windowOpen s p up) / (divider s * 65536 : Nat) + 1).toNat

/-- The terminal a shot drives now, as its path and whether it is UTpA (R292): from the launch until the window's first hit. -/
def utDriven (s : State) : Option (Nat × Bool) :=
  match s.tdc.grant, s.acou.plan with
  | some g, e :: _ => if g.req = .sequencer ∧ g.hits = [] then some e else none
  | _, _ => none

/-- The terminal a shot receives on now, as its path and whether it is UTpA (R292): the other end, from the window's first hit on. -/
def utReceiving (s : State) : Option (Nat × Bool) :=
  match s.tdc.grant, s.acou.plan with
  | some g, (p, up) :: _ => if g.req = .sequencer ∧ g.hits ≠ [] then some (p, !up) else none
  | _, _ => none

/-- Amplitude A of a window (R297). -/
def amplitude (xs : List Int) : Nat := (xs.map Int.natAbs).foldl max 0

/-- CLIP (R297). -/
def clips (xs : List Int) : Bool := xs.any (fun x => decide (x ≤ -512) || decide (511 ≤ x))

/-- Shot time in tone mode (R299). -/
def toneTime (s : State) (hits : List Hit) : Int :=
  let step : Int := (stride s * (4 * divider s) * 65536 : Nat)
  roundDiv (((List.range hits.length).zip hits).foldl (fun a e => a + ((hitTime e.2 : Int) - e.1 * step)) 0) hits.length

/-- Σ h[i] × x[i] over the taps. -/
def dot (h x : List Int) : Int :=
  match h, x with
  | a :: h', b :: x' => a * b + dot h' x'
  | _, _ => 0

/-- c[j] of R300. -/
def corr (h x : List Int) (j : Nat) : Int := dot h (x.drop j)

/-- First and last position of the correlator's span (R300): every j in acquisition; else 64 − S to 64 + S, from 0 on (log entry 23). -/
def corrRange (s : State) (acquiring : Bool) (l : Nat) : Nat × Nat :=
  if acquiring then (0, 1023 - l) else (64 - obj s Obj.CorrSpan, 64 + obj s Obj.CorrSpan)

/-- Position of the largest c in lo … hi, the first of equals (log entry 23). -/
def corrPeak (h x : List Int) (lo hi : Nat) : Nat :=
  ((List.range (hi - lo + 1)).foldl (fun (b : Nat × Int) i =>
    let c := corr h x (lo + i)
    if b.2 < c then (lo + i, c) else b) (lo, corr h x lo)).1

/-- (j* + δ) / fs in T/65 536 (R301): δ in Q1.15, one sample is D MCLK periods. -/
def peakTime (h x : List Int) (j d : Nat) : Int :=
  let cm := corr h x (j - 1)
  let c0 := corr h x j
  let cp := corr h x (j + 1)
  ((j : Int) * 32768 + roundDiv ((cm - cp) * 32768) (2 * (cm - 2 * c0 + cp))) * (2 * d)

/-- A shot's time and EDGE (R299 to R301), none without its hits. -/
def shotTime (s : State) (p : Nat) (hits : List Hit) (xs : List Int) : Option (Int × Bool) :=
  let got := hits.filter (·.valid)
  if obj s Obj.BurstStyle = 0 then
    if got.length = obj s Obj.ZcHits then some (toneTime s got, false) else none
  else
    match got.head? with
    | none => none
    | some t =>
      let h := templateTaps s
      let r := corrRange s (loopOf s p).acquiring (tapCount s)
      let j := corrPeak h xs r.1 r.2
      some (if j = r.1 ∨ j = r.2 then (hitTime t, true) else (hitTime t + peakTime h xs j (divider s), false))

/-- Judge a shot by Table 09.2 (R297, R306, R314). -/
def judgeShot (s : State) (p : Nat) (up : Bool) (hits : List Hit) (samples : List Int) : Shot :=
  let xs := samples.take (windowLength s p up hits)
  let a := amplitude xs
  let low := decide (a < obj s Obj.EchoFloor) || s.tdc.pairLost
  match shotTime s p hits xs with
  | none => ⟨p, up, 0, a, true, clips xs, false, false⟩
  | some (t, edge) =>
    let off := (t - texp s p up).natAbs
    let skip := !(loopOf s p).acquiring && !low && !edge && decide (16 * divider s * 65536 < off * 10)
    ⟨p, up, t, a, low, clips xs, skip, edge⟩

/-- Is a shot used (Table 09.2)? -/
def Shot.used (x : Shot) : Bool := !x.noEcho && !x.clip && !x.skip && !x.edge

/-- t_exp after a used shot, and the runs of CYCLE_SKIP per direction (R307). -/
def trackShot (l : PathLoop) (x : Shot) : PathLoop :=
  if x.up then { l with
    texpUp := if x.used then x.time else l.texpUp
    lastUp := if x.noEcho then l.lastUp else x.time
    skipUp := if x.skip then l.skipUp + 1 else 0 }
  else { l with
    texpDown := if x.used then x.time else l.texpDown
    lastDown := if x.noEcho then l.lastDown else x.time
    skipDown := if x.skip then l.skipDown + 1 else 0 }

/-- L samples after the correlation peak, normalised to a largest tap of ±127 (R302). -/
def normalised (xs : List Int) : List Int :=
  let a : Int := amplitude xs
  xs.map (fun x => roundDiv (x * 127) a)

/-- Take the captured template from the path 0 up shot when it is used (R302, R317); the journal keeps it from then on (R302, R324). -/
def captureShot (s : State) (x : Shot) (samples : List Int) : State :=
  match s.acou.capture with
  | none => s
  | some n =>
    if n = 0 ∨ x.path ≠ 0 ∨ !x.up ∨ !x.used ∨ tapCount s = 0 then s
    else
      let r := corrRange s (loopOf s 0).acquiring (tapCount s)
      let j := corrPeak (templateTaps s) samples r.1 r.2
      let taps := normalised ((samples.drop j).take (tapCount s))
      setObj { s with
        acou := { s.acou with template := taps, captured := true, capture := none }
        flash := { s.flash with noonAcou := some ((s.flash.noonAcou.map (·.1)).getD s.acou.loops, taps, true) } } Obj.TemplateStatus 1

/-- Does an armed capture ask for this shot (Table 09.6, `SampleCaptureArm`)? -/
def wantsSamples (s : State) (p : Nat) (up : Bool) : Bool :=
  match s.acou.sampleNow with
  | none => false
  | some v => decide ((v - 1) / 2 = p) && decide ((v % 2 = 1) = (up = true))

/-- The grant of a shot ends (R296, R297, R306): its verdict is kept, captures are served, and the sequencer moves on. -/
def shotEnd (s : State) (g : Grant) (samples : List Int) : State :=
  match s.acou.plan with
  | [] => s
  | (p, up) :: rest =>
    let x := judgeShot s p up g.hits samples
    let xs := samples.take (windowLength s p up g.hits)
    let s1 := captureShot s x xs
    let s2 := if wantsSamples s1 p up then
        { s1 with acou := { s1.acou with samples := padTo 1024 0 xs, sampleNow := none } }
      else s1
    let s3 := setLoop s2 p (trackShot (loopOf s2 p) x)
    { s3 with acou := { s3.acou with plan := rest, shots := s3.acou.shots ++ [x] }, tdc := { s3.tdc with pairLost := false } }

/-- `SampleCapture` as read: 1024 samples as I16. -/
def sampleBytes (s : State) : List Byte := (padTo 1024 0 s.acou.samples).flatMap (fun x => bytesOf 2 (ofInt 2 x))

/-- Is a path (0 to 3) in service (R649)? `PathInService` has a bit per path. -/
def pathServed (s : State) (p : Nat) : Bool := getBit s Obj.PathInService p

/-- `PathsHealthy`: enabled paths not FAILED, one in service left out (R649). -/
def pathsHealthy (s : State) : Nat :=
  (subs4.filter (fun p => decide (obj s (Obj.PathEnable p) = 1) && !getBit s (Obj.PathStatus p) 6 && !pathServed s (p - 1))).length

/-- Is a path shot in this cycle (R308, R318, R321, R649, R651): enabled, not SHORT; a FAILED one once every 64 cycles; one in service only while a
service calibration collects? -/
def isShot (s : State) (p : Nat) : Bool :=
  decide (obj s (Obj.PathEnable (p + 1)) = 1) && !getBit s (Obj.PathStatus (p + 1)) 5
    && (if pathServed s p then s.flow.collect.isSome
      else !getBit s (Obj.PathStatus (p + 1)) 6 || decide (s.acou.ticks % 64 = 0))

/-- The ABBA order of a cycle's shots (R308). -/
def planOf (s : State) : List (Nat × Bool) :=
  ([0, 1, 2, 3].filter (isShot s)).flatMap (fun p => [(p, true), (p, false), (p, false), (p, true)])

/-- Objects whose change puts every path into acquisition (R312). -/
def burstObjs : List Nat :=
  [Obj.BurstStyle, Obj.CentreFrequency, Obj.ToneCycles, Obj.ChipCycles, Obj.ChirpCycles, Obj.ChirpSweep, Obj.TemplateSource]

/-- Settings pending for the cycle start apply together (R312): paths whose burst or frequency settings change acquire. -/
def applyAcoustic (s : State) : State :=
  if !pendingOf s .acoustic then s
  else
    let t := applyPend s .acoustic
    if burstObjs.any (fun k => decide (obj t k ≠ obj s k)) then [0, 1, 2, 3].foldl acquire t else t

/-- The stride in force from this cycle on (R298, R314): entering single-pair mode puts every path into acquisition. -/
def applyStride (s : State) : State :=
  let single := decide (obj s Obj.TdcMode = 1)
  let t := objBit { s with acou := { s.acou with singleStride := single } } Obj.CycleStatus 2 single
  if single && !s.acou.singleStride then [0, 1, 2, 3].foldl acquire t else t

/-- Ā, the mean amplitude of a path's shots. -/
def meanAmp (xs : List Shot) : Nat := (roundDiv ((xs.map (·.amp)).sum : Nat) xs.length).toNat

/-- The gain after a cycle (R303, R304): steps of 0.25 dB, 0 dB to 66 dB; the larger step of an acquisition cycle without echo replaces the others
(log entry 23). -/
def nextGain (s : State) (p : Nat) (xs : List Shot) (a : Nat) : Nat :=
  let g := obj s (Obj.RxGain (p + 1))
  let target := obj s Obj.RxTargetAmplitude
  if obj s Obj.GainLoopEnable ≠ 1 then g
  else if (loopOf s p).acquiring ∧ xs.any (·.noEcho) then min 264 (g + 48)
  else if xs.any (·.clip) then g - 24
  else if 1122 * target < a * 1000 then g - 1
  else if a * 1122 < 1000 * target then min 264 (g + 1)
  else g

/-- P in 1/65 536 code after a good cycle (R305). -/
def nextPeak (l : PathLoop) (a : Nat) : Nat := if l.acquiring then a * 65536 else ((l.peak : Int) + ((a : Int) * 65536 - l.peak) / 8).toNat

/-- The threshold: P × `FwFraction` / 256, rounded down to an even code (R305). -/
def thresholdOf (s : State) (peak : Nat) : Nat := peak * obj s Obj.FwFraction / 256 / 65536 / 2 * 2

/-- `PathStatus` after a cycle (Table 09.6); OPEN, SHORT and FAILED stay. -/
def pathStatusAfter (old : Nat) (xs : List Shot) (low acquiring : Bool) : Nat :=
  old / 16 % 8 * 16 + (if xs.any (·.noEcho) then 1 else 0) + (if low then 2 else 0) + (if xs.any (·.clip) then 4 else 0)
    + (if xs.any (·.skip) then 8 else 0) + (if acquiring then 128 else 0)

/-- Mean of the shots of one direction. -/
def meanTime (xs : List Shot) (up : Bool) : Int :=
  let l := xs.filter (fun x => x.up == up)
  roundDiv ((l.map (·.time)).foldl (· + ·) 0) l.length

/-- Loops, verdicts and results of one path at the end of a cycle (R303 to R306, R320 to R322). -/
def pathResults (s : State) (p : Nat) : State :=
  let xs := s.acou.shots.filter (fun x => decide (x.path = p))
  if xs = [] then s
  else
    let a := meanAmp xs
    let good := decide (xs.length = 4) && xs.all Shot.used
    let l := loopOf s p
    let low := decide (obj s (Obj.RxGain (p + 1)) = 264) && decide (2 * a < obj s Obj.RxTargetAmplitude)
    let echoRun := if xs.any (·.noEcho) then l.noEchoRun + 1 else 0
    let acq := (l.acquiring && !good) || xs.any (·.edge) || decide (2 ≤ echoRun)
    let peak := if good then nextPeak l a else l.peak
    let l' := { l with
      acquiring := acq, noEchoRun := echoRun, peak := peak, threshold := if good then thresholdOf s peak else l.threshold
      badRun := if good then 0 else if pathServed s p then l.badRun else l.badRun + 1
      goodRun := if good && getBit s (Obj.PathStatus (p + 1)) 6 then l.goodRun + 1 else 0
      lowRun := if low then l.lowRun + 1 else 0
      lowLogged := l.lowLogged && low }
    let t := setMany (setLoop s p l') [(Obj.RxGain (p + 1), nextGain s p xs a), (Obj.RxAmplitude (p + 1), a),
      (Obj.PathStatus (p + 1), pathStatusAfter (obj s (Obj.PathStatus (p + 1))) xs low acq),
      (Obj.ShotErrorCount (p + 1), (obj s (Obj.ShotErrorCount (p + 1)) + (xs.filter (fun x => !x.used)).length) % 2 ^ 32)]
    if good then setMany t [(Obj.TransitUp (p + 1), ofInt 8 (meanTime xs true)), (Obj.TransitDown (p + 1), ofInt 8 (meanTime xs false))] else t

/-- Did a path's cycle just ended give a result: four used shots (R306)? -/
def goodCycle (s : State) (p : Nat) : Bool :=
  let xs := s.acou.shots.filter (fun x => decide (x.path = p))
  decide (xs.length = 4) && xs.all Shot.used

/-- `ShotSpacing` after the previous shot's grant, or at the cycle start, the sequencer requests the timer (R308); the plan's first shot is launched at the
grant's start. -/
def execShotLaunch (s : State) : Res :=
  let busy : Bool := match s.tdc.grant with
    | none => false
    | some g => decide (g.req = .sequencer)
  when (s.acou.running && !s.acou.plan.isEmpty && !busy) s fun s => requestTimer s .sequencer

/-- After 8 consecutive cycles that each start on their own tick OVERRUN clears (R310). -/
def execOverrunCleared (s : State) : Res :=
  when (decide (8 ≤ s.acou.ownTicks) && getBit s Obj.CycleStatus 0) s fun s => objBit s Obj.CycleStatus 0 false

/-- After 3 consecutive CYCLE_SKIP verdicts in one direction the newest shot time becomes t_exp (R307). -/
def execCycleSkipResync (path : Fin 4) (up : Bool) (s : State) : Res :=
  let l := loopOf s path.val
  when (decide (3 ≤ (if up then l.skipUp else l.skipDown))) s fun s =>
    setLoop s path.val (if up then { l with texpUp := l.lastUp, skipUp := 0 } else { l with texpDown := l.lastDown, skipDown := 0 })

/-- Mark a path FAILED with a reason bit, or none (R318 to R320). -/
def failPath (s : State) (p : Nat) (bit : Option Nat) (code : Nat) : State :=
  let k := Obj.PathStatus (p + 1)
  let t := match bit with
    | none => s
    | some b => objBit s k b true
  raise (setLoop (objBit t k 6 true) p { loopOf t p with goodRun := 0 }) code

/-- VDRV falls by more than 25 % during a burst (R318): the burst stops, the path is SHORT and FAILED and is not driven again. -/
def execPathShort (path : Fin 4) (s : State) : Res :=
  when (s.acou.running && s.acou.plan.any (fun e => decide (e.1 = path.val))) s fun s =>
    let cur : Bool := match s.tdc.grant with
      | none => false
      | some g => decide (g.req = .sequencer) && decide ((s.acou.plan.head?.map (·.1)) = some path.val)
    let t := failPath { s with acou := { s.acou with plan := s.acou.plan.filter (fun e => decide (e.1 ≠ path.val)) } } path.val (some 5) 0x2104
    dropTimer (if cur then { t with tdc := { t.tdc with grant := none } } else t) .sequencer

/-- No good cycle of a path in `PathFailCycles` consecutive cycles (R320). -/
def execPathFailed (path : Fin 4) (s : State) : Res :=
  when (decide (obj s Obj.PathFailCycles ≤ (loopOf s path.val).badRun) && !getBit s (Obj.PathStatus (path.val + 1)) 6
      && !pathServed s path.val) s fun s =>
    failPath s path.val none 0x2105

/-- 64 consecutive good probe cycles, and a passing check where the failure was OPEN or SHORT (R321). -/
def execPathRecovered (path : Fin 4) (s : State) : Res :=
  let st := Obj.PathStatus (path.val + 1)
  when (getBit s st 6 && decide (64 ≤ (loopOf s path.val).goodRun) && !getBit s st 4 && !getBit s st 5) s fun s =>
    raise (setLoop (objBit s st 6 false) path.val { loopOf s path.val with goodRun := 0, badRun := 0 }) 0x2106

/-- LOW_SIGNAL for 1024 consecutive cycles, logged once (R322). -/
def execPathLowSignal (path : Fin 4) (s : State) : Res :=
  let l := loopOf s path.val
  when (decide (1024 ≤ l.lowRun) && !l.lowLogged) s fun s => raise (setLoop s path.val { l with lowLogged := true }) 0x2102

/-- 8 cycles without a usable path 0 up shot (R317). -/
def execTemplateCaptureFailed (s : State) : Res :=
  match s.acou.capture with
  | none => ok s
  | some n => when (decide (8 ≤ n) && (!s.acou.running || s.acou.shots.any (fun x => decide (x.path = 0)))) s fun s => setObj { s with acou := { s.acou with capture := none } } Obj.TemplateStatus 2

/-- C = 10 µA × t / 0.5 V in pF, of a rise time in ns (R319). -/
def capacitance (t : Nat) : Nat := (roundDiv t 50).toNat

/-- The transducer check of one path (R319): SHORT, OPEN, or sound, which clears both marks. -/
def checkPath (s : State) (p : Nat) : State :=
  match s.pads.rise[p]? with
  | none => s
  | some r =>
    let k := Obj.PathStatus (p + 1)
    if 2000000 ≤ r.a ∨ 2000000 ≤ r.b then failPath s p (some 5) 0x2104
    else
      let c := min (capacitance r.a) (capacitance r.b)
      let t := setObj s (Obj.TransducerCapacitance (p + 1)) c
      if c < obj t Obj.TransducerCapMin then failPath t p (some 4) 0x2103
      else objBit (objBit t k 4 false) k 5 false

/-- The check of every enabled path not in service (R319, R316, R649). -/
def checkPaths (s : State) : State :=
  ([0, 1, 2, 3].filter (fun p => decide (obj s (Obj.PathEnable (p + 1)) = 1) && !pathServed s p)).foldl checkPath s

/-- `PathCheck` (R319): the check runs after the next cycle. -/
def armPathCheck (s : State) : State := { s with acou := { s.acou with checkPending := true } }

/-- `TemplateCapture` (R302, R317). -/
def armTemplate (s : State) : State := { s with acou := { s.acou with capture := some 0 } }

/-- `SampleCaptureArm` (Table 09.6). -/
def armSamples (s : State) (v : Nat) : State := { s with acou := { s.acou with sampleArm := some v } }

/-- Centre frequencies a fused option admits (R8): 100 kHz to 4 MHz, as in Table 00.1. -/
def frequencyFused (c : OrderCode) (hz : Nat) : Bool :=
  match c with
  | .gs => decide (100000 ≤ hz) && decide (hz ≤ 500000)
  | _ => decide (500000 ≤ hz) && decide (hz ≤ 4000000)

/-- Does a written centre frequency give a divider, and an actual frequency the fused option admits (R8, R294)? -/
def frequencyFits (c : OrderCode) (f : Nat) : Bool := decide (0 < f) && decide (f ≤ 16000000) && frequencyFused c (actualFrequency f)

/-- Would a commit of the acoustic shadows be accepted (R8, R295)? -/
def acousticOk (s : State) : Bool :=
  decide (templateLength (objNext s Obj.BurstStyle) (objNext s Obj.ChipCycles) (objNext s Obj.ChirpCycles) ≤ 256)
    && frequencyFits s.code (objNext s Obj.CentreFrequency)

end Sys2Proof.Machine
end

