-- ==== Sys2Proof/Machine/Seal.lean ====
section
/-! DEFINITION. The metrological seal (chapter 05) and the transaction of a service replacement (R646). -/

namespace Sys2Proof.Machine

/-- Every present M object that is not of kind X, in ascending index and sub-index: key and size (R151). -/
def mObjects (c : OrderCode) : List (Nat × Nat) :=
  (dictionary.filter (fun d => d.m && d.kind != .x && d.avail.present c)).flatMap (fun d =>
    (List.range (d.hi - d.lo + 1)).map (fun i => (d.index * 256 + d.lo + i, d.size)))

/-- The message of R151: index, sub-index and active value of each. -/
def sealMessage (s : State) : List Byte :=
  (mObjects s.code).flatMap (fun e => bytesOf 3 e.1 ++ bytesOf e.2 (obj s e.1))

/-- The checksum of R151. -/
def metrologyChecksum (s : State) : Nat := crc32 (sealMessage s)

/-- Is a shadow of an M object pending (R152)? -/
def mShadow (s : State) : Bool :=
  (s.shadow ++ s.pend).any (fun e => match rowOf e.1 with
    | some d => d.m
    | none => false)

/-- `Seal` (R151). -/
def sealPart (s : State) : State :=
  raise (commitObjs s [(Obj.MetrologyChecksum, metrologyChecksum s), (Obj.SealState, 1), (Obj.SealTime, t48 s)]).2 0x1013

/-- `SealBreak` (R154, R156): the count, which nothing lowers and which stands at its largest value once it has reached it, is journalled first; `SealState`
changes, and the event is logged, when the record's commit word is programmed (`Sys2Proof.Machine.finishBreak`). In readout mode records are programmed
before anything is applied (R202), so both go together. -/
def sealBreakPart (s : State) : State :=
  let (n, t) := commitObjs s [(Obj.SealBreakCount, min (2 ^ 32 - 1) (obj s Obj.SealBreakCount + 1))]
  if s.pw.mode = .readout then finishBreak t else { t with flash := { t.flash with breakTxn := some n } }

/-- The seal check of the noon pass (R187): a passing check clears `ErrorFlags` bit [11] (Table 14.7). -/
def sealCheck (s : State) : State :=
  if obj s Obj.SealState ≠ 1 then s
  else if metrologyChecksum s = obj s Obj.MetrologyChecksum then clrErr s 11
  else raise s 0x1016

/-- Service values set in one transaction with the count, the time and, while sealed, the checksum (R646, R647: nothing lowers the count, which
stands at its largest value once it has reached it). -/
def serviceCommit (s : State) (l : List (Nat × Nat)) : State :=
  let es := l ++ [(Obj.ServiceCount, min (2 ^ 32 - 1) (obj s Obj.ServiceCount + 1)), (Obj.LastServiceTime, t48 s)]
  let t := setMany s es
  let sum := if obj s Obj.SealState = 1 then [(Obj.MetrologyChecksum, metrologyChecksum t)] else []
  (journal (setMany t sum) (es ++ sum)).2

end Sys2Proof.Machine
end

