-- ==== Sys2Proof/Machine/Temp.lean ====
section
/-! DEFINITION. Temperature ports and heat (chapter 11): conversions, resistances and temperatures, standby ports, the heat coefficient, heat and cooling. -/

namespace Sys2Proof.Machine

/-- What conversions keep of port x, 0 to 3. -/
def portSt (s : State) (x : Nat) : PortSt := mget s.temp.ports x ⟨none, 0⟩

/-- Store it. -/
def setPortSt (s : State) (x : Nat) (p : PortSt) : State := { s with temp := { s.temp with ports := mset s.temp.ports x p } }

/-- The port that holds a role, 0 to 3 (Table 11.2). -/
def portOf (s : State) (role : Nat) : Option Nat := [0, 1, 2, 3].find? (fun x => decide (obj s (Obj.PortRole (x + 1)) = role))

/-- Is a port valid (R370)? VALID shows it. -/
def portValid (s : State) (x : Nat) : Bool := getBit s (Obj.PortStatus (x + 1)) 0

/-- Is the port of a role valid? -/
def roleValid (s : State) (role : Nat) : Bool :=
  match portOf s role with
  | none => false
  | some x => portValid s x

/-- `StandbyReady`: roles 1 and 2 with a valid standby port. -/
def standbyReady (s : State) : Nat := ([3, 4].filter (roleValid s)).length

/-- The port a role uses now: the standby port while in use and valid, else the primary while valid (R367). -/
def usedPort (s : State) (role : Nat) : Option Nat :=
  if s.temp.standbyUsed.contains role && roleValid s (role + 2) then portOf s (role + 2)
  else if roleValid s role then portOf s role else none

/-- Temperatures by role as a cycle starting now takes them (R382, Table 01.6). -/
def tempsNow (s : State) : NMap Int :=
  ([1, 2, 6].filterMap (fun r => (usedPort s r).map (fun x => (r, objI 4 s (Obj.Temperature (x + 1))))))

/-- The ports measured by a conversion, ascending (R361). -/
def measuredPorts (s : State) : List Nat := [0, 1, 2, 3].filter (fun x => decide (obj s (Obj.PortRole (x + 1)) ≠ 0))

/-- The symmetric order of discharges: Z, R, P₁ … P_k, P_k … P₁, R, Z; Z is 0, R is 1, port x is 2 + x (R361). -/
def dischargeOrder (s : State) : List Nat :=
  let ps := (measuredPorts s).map (· + 2)
  [0, 1] ++ ps ++ ps.reverse ++ [1, 0]

/-- The journal carries the zero-loop hold and the standby state as they are now (R357, R387; log entry 91). -/
def journalKept (s : State) : State :=
  { s with flash := { s.flash with kept := ⟨s.flow.holdSince, s.flow.adapting, s.temp.standbyUsed⟩ } }

/-- What a start takes from the journal beside the objects (R357, R387). -/
def restoreKept (s : State) : State :=
  let k := s.flash.kept
  objBit { s with
    flow := { s.flow with holdSince := k.holdSince, adapting := k.adapting }
    temp := { s.temp with standbyUsed := k.standby } } Obj.HeatStatus 4 (decide (k.standby ≠ []))

/-- A role leaves its standby port (R367). -/
def releaseStandby (s : State) (role : Nat) : State :=
  let t := { s with temp := { s.temp with standbyUsed := s.temp.standbyUsed.filter (· ≠ role), primaryRun := mdel s.temp.primaryRun role } }
  raise (objBit (journalKept t) Obj.HeatStatus 4 (decide (t.temp.standbyUsed ≠ []))) 0x2306

/-- Standby substitution (R367): an invalid primary port gives way to its valid standby port; runs of a valid primary count toward release. A role that has
no such pair of ports any more leaves its standby port. -/
def standbyRole (counts : Bool) (s : State) (role : Nat) : State :=
  match portOf s role, portOf s (role + 2) with
  | some p, some q =>
    if s.temp.standbyUsed.contains role then
      if counts then
        let n := if portValid s p then mget s.temp.primaryRun role 0 + 1 else 0
        { s with temp := { s.temp with primaryRun := mset s.temp.primaryRun role n } }
      else s
    else if !portValid s p && portValid s q then
      raise (objBit (journalKept { s with temp := { s.temp with
        standbyUsed := s.temp.standbyUsed ++ [role], primaryRun := mdel s.temp.primaryRun role } }) Obj.HeatStatus 4 true) 0x2305 [p, q]
    else s
  | _, _ => if s.temp.standbyUsed.contains role then releaseStandby s role else s

/-- Objects whose change makes a port wait for its next conversion (R378), per port. -/
def portObjs (x : Nat) : List Nat :=
  [Obj.PortRole (x + 1), Obj.SensorR0 (x + 1), Obj.CvdA (x + 1), Obj.CvdB (x + 1), Obj.CvdC (x + 1), Obj.LeadResistance (x + 1),
   Obj.PairOffset (x + 1), Obj.PairSlope (x + 1)]

/-- A port is not valid until its next conversion. -/
def invalidatePort (s : State) (x : Nat) : State := objBit s (Obj.PortStatus (x + 1)) 0 false

/-- Pending temperature settings apply at a conversion start (R378); a port whose role or sensor settings change waits for its next conversion. -/
def applyTemps (s : State) : State :=
  if !pendingOf s .temperature then s
  else
    let t := applyPend s .temperature
    [0, 1, 2, 3].foldl (fun a x =>
      if (portObjs x).any (fun k => decide (obj t k ≠ obj s k)) then
        let b := objBit (invalidatePort a x) (Obj.PortStatus (x + 1)) 5 false
        if obj b (Obj.PortRole (x + 1)) = 0 then setObj b (Obj.PortStatus (x + 1)) 0 else b
      else a) t

/-- Pending `SensorReplace` values apply at a conversion start (R658). -/
def applySensors (s : State) : State :=
  match s.temp.sensorPend with
  | none => s
  | some l =>
    let b := fun i n => natOf ((l.drop i).take n)
    let pa := b 0 1
    let pb := b 1 1
    let t := serviceCommit { s with temp := { s.temp with sensorPend := none } }
      [(Obj.PairOffset (pa + 1), b 2 2), (Obj.PairSlope (pa + 1), b 4 4), (Obj.PairOffset (pb + 1), b 8 2), (Obj.PairSlope (pb + 1), b 10 4)]
    raise (invalidatePort (invalidatePort t pa) pb) 0x6006 [pa, pb]

/-- May conversions run (R383, R386, Table 01.8)? -/
def mayConvert (s : State) : Bool := isFull s && !s.pw.hfFailed && decide (obj s Obj.TdcMode ≠ 2)

/-- Start a conversion (R361, R378): pending settings apply, which may move a role to or from its standby port, and the first discharge is requested. -/
def startConversion (s : State) : State :=
  if !mayConvert s || s.temp.conv.isSome then s
  else
    let t := startCclk ([1, 2].foldl (standbyRole false) (applySensors (applyTemps s)))
    requestTimer { t with
      clk := { t.clk with mclk := true }
      temp := { t.temp with conv := some ⟨dischargeOrder t, [], [], 0⟩, due := false } } .temperature

/-- Is a shot of the cycle on the timer or waiting for it? -/
def shotOut (s : State) : Bool :=
  s.tdc.waiting.any (fun w => w.1 == .sequencer) || match s.tdc.grant with
    | none => false
    | some g => decide (g.req = .sequencer)

/-- Are shots of the running cycle still to be fired or on the timer? -/
def shotsLeft (s : State) : Bool := s.acou.running && (!s.acou.plan.isEmpty || shotOut s)

/-- The conversion that waited for the running cycle's last shot starts (R369). -/
def startDue (s : State) : State := if s.temp.due && !shotsLeft s then startConversion s else s

/-- An RTC tick that is a multiple of `ConversionInterval` seconds (R369, R383, R386), ticks counted as R335 counts them: the conversion starts, or waits for
the running cycle's last shot. -/
def execConversionStart (s : State) : Res :=
  when (mayConvert s && s.temp.conv.isNone && decide (ticks s % (obj s Obj.ConversionInterval * 32768) = 0)) s fun s =>
    if shotsLeft s then { startCclk s with temp := { s.temp with due := true } } else startConversion s

/-- A discharge ends, with its time in T/65 536 or an overflow of the timer (R361, R384). -/
def dischargeEnd (s : State) (g : Grant) : State :=
  let t := { s with pads := { s.pads with tcomLow := false } }
  match t.temp.conv with
  | none => t
  | some c =>
    match c.todo with
    | [] => t
    | k :: rest =>
      let c' := match g.hits.head? with
        | some h => if h.valid then { c with todo := rest, times := mset c.times k (mget c.times k 0 + hitTime h) }
          else { c with todo := rest, overflow := c.overflow ++ [k] }
        | none => { c with todo := rest, overflow := c.overflow ++ [k] }
      let u := { t with temp := { t.temp with conv := some c' } }
      if rest = [] then u else requestTimer u .temperature

/-- A grant of a conversion is revoked (R380): the conversion restarts from its beginning; after 4 restarts the interval is skipped. -/
def conversionRevoked (s : State) : State :=
  let t := { s with pads := { s.pads with tcomLow := false } }
  match t.temp.conv with
  | none => t
  | some c =>
    if 4 ≤ c.restarts then
      raise (objBit { t with temp := { t.temp with conv := none } } Obj.TempConversionStatus 1 true) 0x2308
    else requestTimer { t with temp := { t.temp with conv := some ⟨dischargeOrder t, [], [], c.restarts + 1⟩ } } .temperature

/-- The quadratic of R363 in 2⁻³² °C: (−A + √(A² − 4B(1 − R/R0))) / (2B), A in 10⁻¹⁰, B in 10⁻¹²; where the root or the quotient does not exist no
result is stated (log entry 8). -/
def cvdRoot (r r0 a b : Int) : Int :=
  let d := roundDiv ((a * a * r0 + 400000000 * b * (r - r0)) * 2 ^ 64) r0
  if d < 0 then Config.freeResult 10 d else roundDiv (50 * ((isqrt d.toNat : Int) - a * 2 ^ 32)) b

/-- One Newton step on R/R0 = 1 + Aθ + Bθ² + C(θ − 100)θ³ in 2⁻³² °C (R363). -/
def cvdStep (r r0 a b c t : Int) : Int :=
  let f := roundDiv ((r0 - r) * 1000000000000000000 * 2 ^ 128) r0 + a * 100000000 * t * 2 ^ 96 + b * 1000000 * t * t * 2 ^ 64
    + c * (t - 100 * 2 ^ 32) * t * t * t
  let g := a * 100000000 * 2 ^ 96 + 2 * b * 1000000 * t * 2 ^ 64 + c * (4 * t * t * t - 300 * 2 ^ 32 * t * t)
  t - roundDiv f g

/-- θ in mK of a resistance in mΩ with a port's coefficients (R363). -/
def cvdTheta (s : State) (x : Nat) (r : Int) : Int :=
  let r0 : Int := obj s (Obj.SensorR0 (x + 1))
  let a := objI 4 s (Obj.CvdA (x + 1))
  let b := objI 4 s (Obj.CvdB (x + 1))
  let c := objI 4 s (Obj.CvdC (x + 1))
  let t0 := cvdRoot r r0 a b
  let t := if r0 ≤ r then t0 else cvdStep r r0 a b c (cvdStep r r0 a b c t0)
  roundDiv (t * 1000) (2 ^ 32)

/-- `Temperature` of θ in mK (R364). -/
def pairedTemp (s : State) (x : Nat) (th : Int) : Int :=
  th + objI 2 s (Obj.PairOffset (x + 1)) + roundDiv (th * objI 4 s (Obj.PairSlope (x + 1))) 1000000

/-- Mark a port OPEN or SHORT, logged once per onset (R384). -/
def faultPort (s : State) (x bit code : Nat) : State :=
  let k := Obj.PortStatus (x + 1)
  let t := setPortSt (objBit (objBit s k 0 false) k 4 false) x ⟨some (ticks s), 0⟩
  if getBit s k bit then t else raise (objBit t k bit true) code

/-- The result of one port (R362 to R364, R370, R377, R384): R_x in mΩ, none after an overflow. -/
def portResult (s : State) (x : Nat) (rx : Option Int) : State :=
  let k := Obj.PortStatus (x + 1)
  match rx with
  | none => faultPort s x 1 0x2301
  | some r =>
    let r0 : Int := obj s (Obj.SensorR0 (x + 1))
    let pr := r - (obj s (Obj.LeadResistance (x + 1)) : Int)
    let t := setObj s (Obj.PortResistance (x + 1)) (fitN 4 11 pr)
    if 3 * r0 < r then faultPort t x 1 0x2301
    else if 2 * r < r0 then faultPort t x 2 0x2302
    else
      let th := cvdTheta t x pr
      let u := setObj t (Obj.Temperature (x + 1)) (fitI 4 12 (pairedTemp t x th))
      if th < -50000 ∨ 250000 < th then
        let v := setPortSt (objBit (objBit u k 0 false) k 4 false) x ⟨some (ticks u), 0⟩
        if getBit v k 3 then v else raise (objBit v k 3 true) 0x2303
      else
        setPortSt (objBit (objBit (objBit u k 0 true) k 3 false) k 4 false) x ⟨some (ticks u), (portSt u x).goodRun + 1⟩

/-- The run of conversions in which primary and standby port of a role disagree (R368). -/
def disagreeRole (s : State) (role : Nat) : State :=
  match portOf s role, portOf s (role + 2) with
  | some p, some q =>
    let off := (objI 4 s (Obj.Temperature (p + 1)) - objI 4 s (Obj.Temperature (q + 1))).natAbs
    if portValid s p && portValid s q && decide (obj s Obj.StandbyTolerance < off) then
      { s with temp := { s.temp with disagreeRun := mset s.temp.disagreeRun role (mget s.temp.disagreeRun role 0 + 1) } }
    else
      let t := { s with temp := { s.temp with disagreeRun := mdel s.temp.disagreeRun role } }
      objBit (objBit t (Obj.PortStatus (p + 1)) 5 false) (Obj.PortStatus (q + 1)) 5 false
  | _, _ => s

/-- Is t_ref − t_z in the limits of Table 11.5, as two sums over two discharges in T/65 536 (40 µs to 4 ms)? -/
def refInLimits (d : Int) : Bool := decide (2 * 1280 * 65536 ≤ d) && decide (d ≤ 2 * 128000 * 65536)

/-- Are two reference times within 1 % of the earlier one (R385)? -/
def refAgrees (now before : Int) : Bool := decide ((now - before).natAbs * 100 ≤ before.natAbs)

/-- The results of a conversion (R362 to R364, R367, R368, R370, R377, R384, R385). R_x is a ratio of times, so R106 does not enter it; the limits of
R385 are taken on the scaled reference time. -/
def conversionResults (s : State) (c : Conv) : State :=
  let z : Int := (mget c.times 0 0 : Nat)
  let d := ((mget c.times 1 0 : Nat) : Int) - z
  let ref := roundDiv (d * hfScale s) 10000000000
  let bad := c.overflow.contains 0 || c.overflow.contains 1 || !refInLimits ref || match s.temp.refPrev with
    | none => false
    | some b => !refAgrees ref b
  let t := setMany { s with temp := { s.temp with conv := none, firstDue := false, refPrev := some ref.toNat } }
    [(Obj.LastConversionTime, t48 s), (Obj.ConversionCount, (obj s Obj.ConversionCount + 1) % 2 ^ 32),
     (Obj.RefDischargeTime, fitN 4 13 (roundDiv (d * 15625 * hfScale s) (65536 * 10000000000)))]
  let u := objBit t Obj.TempConversionStatus 1 false
  if bad then
    let v := if getBit u Obj.TempConversionStatus 0 then u else raise (objBit u Obj.TempConversionStatus 0 true) 0x2304
    [1, 2].foldl (standbyRole true) v
  else
    let w := if getBit u Obj.TempConversionStatus 0 then
        let a := objBit u Obj.TempConversionStatus 0 false
        if anySensorFault a then a else clrErr a 3
      else u
    let rref : Int := obj w Obj.RefResistance
    let x := (measuredPorts w).foldl (fun a x => portResult a x
      (if c.overflow.contains (x + 2) then none else some (roundDiv (rref * (((mget c.times (x + 2) 0 : Nat) : Int) - z)) d))) w
    [1, 2].foldl disagreeRole ([1, 2].foldl (standbyRole true) x)

/-- The primary port has been valid again for 8 consecutive conversions (R367). -/
def execStandbyReleased (role : Nat) (s : State) : Res :=
  when (s.temp.standbyUsed.contains role && decide (8 ≤ mget s.temp.primaryRun role 0)) s fun s => releaseStandby s role

/-- Primary and standby temperatures differ beyond tolerance in 8 consecutive conversions (R368), logged once per onset. -/
def execSensorDisagree (role : Nat) (s : State) : Res :=
  match portOf s role, portOf s (role + 2) with
  | some p, some q =>
    when (decide (8 ≤ mget s.temp.disagreeRun role 0) && !getBit s (Obj.PortStatus (p + 1)) 5) s fun s =>
      raise (objBit (objBit s (Obj.PortStatus (p + 1)) 5 true) (Obj.PortStatus (q + 1)) 5 true) 0x2307
  | _, _ => ok s

/-- 8 consecutive good conversions clear a port's fault (R384). -/
def execSensorRecovered (port : Fin 4) (s : State) : Res :=
  let k := Obj.PortStatus (port.val + 1)
  when ((getBit s k 1 || getBit s k 2) && decide (8 ≤ (portSt s port.val).goodRun)) s fun s =>
    raise (objBit (objBit s k 1 false) k 2 false) 0x2309

/-- A port's last conversion is more than 3 × `ConversionInterval` old (R370): STALE, and its standby port may take over (R367). -/
def execPortStale (port : Fin 4) (s : State) : Res :=
  let k := Obj.PortStatus (port.val + 1)
  let old : Bool := match (portSt s port.val).lastTick with
    | none => true
    | some t => decide (3 * obj s Obj.ConversionInterval * 32768 < ticks s - t)
  when (old && decide (obj s (Obj.PortRole (port.val + 1)) ≠ 0) && !getBit s k 4) s fun s =>
    [1, 2].foldl (standbyRole false) (objBit (objBit s k 0 false) k 4 true)

/-- Would a commit of the temperature shadows be accepted (R366)? -/
def temperatureOk (s : State) : Bool :=
  let roles := [1, 2, 3, 4].map (fun x => objNext s (Obj.PortRole x))
  let cnt := fun r => (roles.filter (fun x => decide (x = r))).length
  [1, 2, 3, 4, 6].all (fun r => decide (cnt r ≤ 1))
    && (decide (cnt 3 = 0) || decide (0 < cnt 1)) && (decide (cnt 4 = 0) || decide (0 < cnt 2))
    && roles.all (fun r => if s.code = .gs then decide (r = 0 ∨ r = 5 ∨ r = 6) else decide (r ≤ 5))

/-- Would a commit of the heat shadows be accepted (R379)? -/
def heatOk (s : State) : Bool :=
  decide (objNext s Obj.FluidSelect ≠ 1) || (List.range 15).all (fun i =>
    decide (toInt 2 (objNext s (Obj.FluidAxis (i + 1))) < toInt 2 (objNext s (Obj.FluidAxis (i + 2)))))

/-! ### Heat -/

/-- Linear interpolation in a table at whole °C, scaled by 1000 (R342, R371): θ in mK, from 0 °C on. -/
def tableAt (f : Nat → Nat) (th : Nat) : Int :=
  (f (th / 1000) : Int) * 1000 + ((f (th / 1000 + 1) : Int) - f (th / 1000)) * (th % 1000 : Nat)

/-- Hold a temperature in mK within a table's ends. -/
def holdTemp (hi : Nat) (th : Int) : Nat := (clampI 0 hi th).toNat

/-- ρ of water in 0.01 kg/m³ at whole °C: the entries R371 prints, the others left open (log entry 7). -/
def waterDensity (d : Nat) : Nat := if d = 40 then 99287 else if d = 60 then 98388 else Config.waterDensity d

/-- h of water in 0.01 kJ/kg at whole °C: the entries R371 prints, the others left open (log entry 7). -/
def waterEnthalpy (d : Nat) : Nat := if d = 40 then 16902 else if d = 60 then 25260 else Config.waterEnthalpy d

/-- Speed of sound of water in mm/s at whole °C: the entries R342 prints, the others left open (log entry 7). -/
def waterSound (d : Nat) : Nat := if d = 0 then 1402400 else if d = 20 then 1482300 else if d = 50 then 1542500 else Config.waterSound d

/-- The water coefficient (R371), of θf, θr and θv in mK held within 0 °C to 180 °C. -/
def waterCoefficient (f r v : Nat) : Int :=
  let rho := tableAt waterDensity v
  let h := tableAt waterEnthalpy
  if ((f : Int) - r).natAbs < 500 then
    let m := min 179 ((f + r) / 2000)
    roundDiv (rho * ((waterEnthalpy (m + 1) : Int) - waterEnthalpy m)) 10000
  else roundDiv (rho * (h f - h r)) (10000 * ((f : Int) - r))

/-- `FluidAxis` entry i (1 to 16) in mK. -/
def axisAt (s : State) (i : Nat) : Int := objI 2 s (Obj.FluidAxis i) * 100

/-- Column j of `FluidRow` i. -/
def fluidAt (s : State) (i j : Nat) : Int := (obj s (Obj.FluidRow i) / 2 ^ (32 * (16 - j)) % 2 ^ 32 : Nat)

/-- The cell of the axis that holds a temperature: the last i from 1 to 15 with axis i at or below it. -/
def axisCell (s : State) (th : Int) : Nat :=
  (List.range 15).foldl (fun b i => if axisAt s (i + 1) ≤ th then i + 1 else b) 1

/-- The user coefficient (R372): bilinear, the edge value outside the axis. -/
def userCoefficient (s : State) (f r : Int) : Int :=
  let x := clampI (axisAt s 1) (axisAt s 16) f
  let y := clampI (axisAt s 1) (axisAt s 16) r
  let i := axisCell s x
  let j := axisCell s y
  let dx := axisAt s (i + 1) - axisAt s i
  let dy := axisAt s (j + 1) - axisAt s j
  let u := x - axisAt s i
  let v := y - axisAt s j
  roundDiv (fluidAt s i j * (dx - u) * (dy - v) + fluidAt s (i + 1) j * u * (dy - v) + fluidAt s i (j + 1) * (dx - u) * v
    + fluidAt s (i + 1) (j + 1) * u * v) (dx * dy)

/-- `HeatCoefficient` of the temperatures in use (R371, R372), with whether one lies outside the table. -/
def heatCoefficient (s : State) (f r : Int) : Int × Bool :=
  if obj s Obj.FluidSelect = 1 then
    let out := fun t => decide (t < axisAt s 1) || decide (axisAt s 16 < t)
    (userCoefficient s f r, out f || out r)
  else
    let v := if obj s Obj.FlowSensorPosition = 1 then f else r
    let out := fun t => decide (t < 0) || decide (180000 < t)
    (waterCoefficient (holdTemp 180000 f) (holdTemp 180000 r) (holdTemp 180000 v), out f || out r)

/-- Set FLUID_RANGE, logged once per onset (Table 11.8). -/
def fluidRange (s : State) (out : Bool) : State :=
  let t := objBit s Obj.HeatStatus 3 out
  if out && !getBit s Obj.HeatStatus 3 then raise t 0x2403 else t

/-- Class of a forward increment (Table 11.3 rows 2 to 4): heat, cooling, or none. -/
def heatClass (s : State) (f r : Int) : Option Bool :=
  let d := f - r
  let m := obj s Obj.HeatMode
  let lim : Int := obj s Obj.DeltaThetaMin
  let switch := objI 2 s Obj.ChangeOverTemp * 10
  if m ≠ 1 ∧ lim ≤ d ∧ (m = 0 ∨ switch ≤ f) then some true
  else if m ≠ 0 ∧ lim ≤ -d ∧ (m = 1 ∨ f < switch) then some false
  else none

/-- TEMP_ERROR ends (R375): HEAT_RESTORED with the duration in seconds. -/
def heatRestored (s : State) : State :=
  if !getBit s Obj.HeatStatus 0 then s
  else
    let secs := match s.temp.heatErrSince with
      | none => 0
      | some t => (ticks s - t) / 32768
    raise (objBit { s with temp := { s.temp with heatErrSince := none } } Obj.HeatStatus 0 false) 0x2402 (pl 4 secs)

/-- A heat-error increment (R375): the interval counts into `HeatErrorSeconds`. -/
def heatError (s : State) (i : Nat) : State :=
  let t := { s with accs := { s.accs with heatErrTicks := s.accs.heatErrTicks + i } }
  if getBit t Obj.HeatStatus 0 then t
  else raise (objBit { t with temp := { t.temp with heatErrSince := some (ticks t) } } Obj.HeatStatus 0 true) 0x2401

/-- The temperatures of a cycle and their coefficient (Table 11.4 step 5). -/
def showTemps (s : State) (f r : Int) : State :=
  let k := heatCoefficient s f r
  fluidRange (setMany s [(Obj.SupplyTemperature, ofInt 4 f), (Obj.ReturnTemperature, ofInt 4 r), (Obj.DeltaTheta, fitI 4 14 (f - r)),
    (Obj.HeatCoefficient, fitN 4 15 k.1)]) k.2

/-- Add the energy of a classified increment (R374) and show the power. -/
def addHeat (s : State) (isHeat : Bool) (d dV : Int) (i : Nat) : State :=
  let de := roundDiv ((obj s Obj.HeatCoefficient : Int) * d.natAbs * dV) 1000000000
  let w := roundDiv (de * 32768) (1000000 * (i : Int))
  let t := setObj s Obj.HeatPower (fitI 4 16 (if isHeat then w else -w))
  if isHeat then { t with accs := { t.accs with heat := t.accs.heat + de.toNat } }
  else { t with accs := { t.accs with cool := t.accs.cool + de.toNat } }

/-- Heat of one cycle (R373 to R375) on the codes with heat: dV > 0 in nL is a forward increment over i ticks, any other adds nothing. -/
def heatStep (s : State) (dV : Int) (i : Nat) : State :=
  if s.code = .gs then s
  else
    match mfind s.temp.inUse 1, mfind s.temp.inUse 2 with
    | some f, some r =>
      let t := heatRestored (showTemps s f r)
      let c := heatClass t f r
      let u := objBit (objBit t Obj.HeatStatus 1 (decide (0 < dV) && c.isNone)) Obj.HeatStatus 2 (decide (0 < dV) && c == some false)
      match c with
      | some h => if 0 < dV then addHeat u h (f - r) dV i else setObj u Obj.HeatPower 0
      | none => setObj u Obj.HeatPower 0
    | _, _ =>
      let t := setObj s Obj.HeatPower 0
      if 0 < dV then heatError t i else t

end Sys2Proof.Machine
end

