-- ==== Sys2Proof/Machine/FlowMath.lean ====
section
/-! DEFINITION. From transit times to flow and volume (chapter 10). -/

namespace Sys2Proof.Machine

/-- One path's figures in a cycle: τ_up and τ_down before the delay, Δτ, v_p and c_p (R325, R326). -/
structure PathRes where
  path : Nat
  up : Int
  down : Int
  v : Int
  c : Int
deriving DecidableEq, Repr

/-- Enabled paths, 0 to 3. -/
def enabledPaths (s : State) : List Nat := [0, 1, 2, 3].filter (fun p => decide (obj s (Obj.PathEnable (p + 1)) = 1))

/-- A raw time scaled under R106. -/
def scaled (s : State) (t : Nat) : Int := roundDiv ((t : Int) * hfScale s) 10000000000

/-- Velocity in µm/s (R326). -/
def velocity (k dt up down : Int) : Int := roundDiv (k * dt * 2097152000000) (up * down)

/-- Speed of sound in mm/s (R326). -/
def soundSpeed (l up down : Int) : Int := roundDiv (l * (up + down) * 1048576000) (up * down)

/-- The figures of one path (R325, R326). -/
def pathRes (s : State) (p : Nat) : PathRes :=
  let up := scaled s (obj s (Obj.TransitUp (p + 1)))
  let down := scaled s (obj s (Obj.TransitDown (p + 1)))
  let delay := roundDiv ((obj s (Obj.PathDelay (p + 1)) : Int) * 32768) 15625
  let zero := roundDiv (objI 4 s (Obj.ZeroOffset (p + 1)) * 32768) 15625000
  let tu := up - delay
  let td := down - delay
  ⟨p, up, down, velocity (obj s (Obj.PathFactorK (p + 1))) (td - tu - zero) tu td, soundSpeed (obj s (Obj.PathLength (p + 1))) tu td⟩

/-- Insert into an ascending list. -/
def insertSorted (x : Int) (l : List Int) : List Int :=
  match l with
  | [] => [x]
  | y :: t => if x ≤ y then x :: y :: t else y :: insertSorted x t

/-- Twice the median; of an even number, the sum of the middle two (log entry 9). -/
def median2 (l : List Int) : Int :=
  let m := l.foldl (fun a x => insertSorted x a) []
  let n := m.length
  (m[(n - 1) / 2]?).getD 0 + (m[n / 2]?).getD 0

/-- Does a path pass the test of R341 against the median? -/
def sosPathOk (s : State) (med2 : Int) (r : PathRes) : Bool :=
  decide ((2 * r.c - med2).natAbs * 10000 ≤ obj s Obj.SosPathTolerance * med2.natAbs)

/-- The paths with a result after R327 and R341, and the paths R341 leaves out. -/
def usedResults (s : State) (rs : List PathRes) : List PathRes × List Nat :=
  let a := rs.filter (fun r => decide (r.v.natAbs ≤ obj s Obj.PathVelocityMax))
  if a.length < 3 then (a, [])
  else
    let m := median2 (a.map (·.c))
    (a.filter (sosPathOk s m), (a.filter (fun r => !sosPathOk s m r)).map (·.path))

/-- Paths that count as failed for flow (chapter 10, R649), as bits of `FlowPathExcluded`; taken at each cycle start (R351). -/
def failedForFlow (s : State) : Nat :=
  ([0, 1, 2, 3].filter (fun p => getBit s (Obj.PathStatus (p + 1)) 6 || pathServed s p
    || decide (obj s Obj.PathFailCycles ≤ mget s.flow.noResRun p 0))).foldl (fun m p => m + 2 ^ p) 0

/-- Weight of path p in a set: 0 primary, 1 to 4 the fallback of path 0 to 3. -/
def weightOf (s : State) (set p : Nat) : Nat :=
  match set with
  | 0 => obj s (Obj.WeightsPrimary (p + 1))
  | 1 => obj s (Obj.WeightsFallback0 (p + 1))
  | 2 => obj s (Obj.WeightsFallback1 (p + 1))
  | 3 => obj s (Obj.WeightsFallback2 (p + 1))
  | _ => obj s (Obj.WeightsFallback3 (p + 1))

/-- Does a fallback set exist for path p? -/
def hasFallback (s : State) (p : Nat) : Bool := (enabledPaths s).any (fun q => decide (q ≠ p) && decide (weightOf s (p + 1) q ≠ 0))

/-- S of R328 over the results of a cycle, path `without` left out. -/
def meanVelocity (s : State) (set : Nat) (rs : List PathRes) : Int :=
  roundDiv ((rs.map (fun r => (weightOf s set r.path : Int) * r.v)).foldl (· + ·) 0) 32768

/-- Q_raw in nL/s (R329). -/
def rawFlow (area v factor : Int) : Int := roundDiv (area * v * factor) 1000000000

/-- nL/s as mL/h, rounded. -/
def toMlh (q : Int) : Int := roundDiv (q * 36) 10000

/-- The corrector's error e in ppm at |Q_raw| in mL/h (R330), over breakpoints in order. -/
def segError (l : List (Int × Int)) (x : Int) : Int :=
  match l with
  | [] => 0
  | [(_, e)] => e
  | (f1, e1) :: (f2, e2) :: t =>
    if x ≤ f1 then e1 else if x ≤ f2 then roundDiv (e1 * (f2 - f1) + (e2 - e1) * (x - f1)) (f2 - f1) else segError ((f2, e2) :: t) x

/-- Breakpoints in force. -/
def segments (s : State) : List (Int × Int) :=
  (List.range (obj s Obj.SegCount)).map (fun i => ((obj s (Obj.SegFlow (i + 1)) : Int), objI 4 s (Obj.SegError (i + 1))))

/-- Q from Q_raw: segment corrector, then the low-flow cutoff (R330, R332). -/
def correctedFlow (s : State) (raw : Int) : Int :=
  if raw.natAbs * 36 < obj s Obj.LowFlowCutoff * 10000 then 0
  else if obj s Obj.SegCount = 0 then raw
  else roundDiv (raw * (1000000 + segError (segments s) (toMlh raw.natAbs))) 1000000

/-- ΔV in nL (R335). -/
def increment (q : Int) (i : Nat) : Int := roundDiv (q * i) 32768

/-- Interval of the cycle just run in ticks (R335), none for the first one (R357). -/
def cycleInterval (s : State) : Option Nat :=
  match intervalFrom s.acou.prevStart s.acou.lastNoCycle, s.acou.cycleStart with
  | some a, some b => some (b - a)
  | _, _ => none

/-- ERROR shows R345 and the saturation of Table 10.2. -/
def showError (s : State) (saturated : Bool) : State := objBit s Obj.FlowStatus 1 (s.flow.errSince.isSome || saturated)

/-- The flow error sets (R345, R356). -/
def flowErrorOn (s : State) : State :=
  match s.flow.errSince with
  | some _ => s
  | none => raise (showError { s with flow := { s.flow with errSince := some (ticks s) } } false) 0x2204

/-- The flow error clears (R345): FLOW_RESTORED with the duration in seconds, which adds to `FlowErrorSeconds`. -/
def flowErrorOff (s : State) : State :=
  match s.flow.errSince with
  | none => s
  | some t =>
    let d := ticks s - t
    let u := { s with flow := { s.flow with errSince := none }, accs := { s.accs with flowErrTicks := s.accs.flowErrTicks + d } }
    raise (showError u false) 0x2205 (pl 4 (d / 32768))

/-- DEGRADED sets or clears with its event (R344). -/
def degraded (s : State) (on : Bool) : State :=
  if getBit s Obj.FlowStatus 0 = on then s
  else raise (objBit s Obj.FlowStatus 0 on) (if on then 0x2202 else 0x2203)

/-- θ_gas of a cycle (R348): a valid one is remembered, whatever the cycle's flow. -/
def noteGas (s : State) : State :=
  match mfind s.temp.inUse 6 with
  | none => s
  | some x => if s.code = .gs then { s with flow := { s.flow with lastGas := some x } } else s

/-- The converted volume of an increment on XQ40-GS (R348): by θ_gas, or the last valid one with TEMP_HELD set; before any there is none, and the interval
counts as unmeasured. A reverse increment converts to nothing. -/
def convertVolume (s : State) (dV : Int) (i : Nat) : State :=
  if s.code ≠ .gs ∨ obj s Obj.GasTempConversion ≠ 1 then s
  else
    let u := objBit s Obj.FlowStatus 9 (mfind s.temp.inUse 6).isNone
    match u.flow.lastGas with
    | none => { u with accs := { u.accs with unmeasured := u.accs.unmeasured + i } }
    | some x =>
      let cv := roundDiv (dV * (objI 2 u Obj.GasBaseTemperature * 10 + 273150)) (x + 273150)
      { u with accs := { u.accs with volConv := u.accs.volConv + cv.toNat } }

/-- Add an increment (R333) and its converted volume (R348): positive to forward, negative to reverse. -/
def addVolume (s : State) (dV : Int) (i : Nat) : State :=
  convertVolume { s with accs := if dV < 0 then { s.accs with volRev := s.accs.volRev + dV.natAbs }
    else { s.accs with volFwd := s.accs.volFwd + dV.toNat } } dV i

/-- Spells of reverse flow (R334), from a cycle's Q where it has one. -/
def trackReverse (s : State) (q : Option Int) : State :=
  let rev : Bool := match q with
    | none => false
    | some x => decide (x * 36 < -((obj s Obj.ReverseAlarmFlow : Int) * 10000))
  { s with flow := { s.flow with
      revSince := if rev then some (s.flow.revSince.getD (ticks s)) else none
      revClear := if rev then none else some (s.flow.revClear.getD (ticks s)) } }

/-- Q stays below −`ReverseAlarmFlow` for `ReverseAlarmTime` (R334). -/
def execReverseFlow (s : State) : Res :=
  match s.flow.revSince with
  | none => ok s
  | some t =>
    when (decide (obj s Obj.ReverseAlarmTime * 32768 ≤ ticks s - t) && !getBit s Obj.FlowStatus 5) s fun s =>
      raise (objBit s Obj.FlowStatus 5 true) 0x2208

/-- The same time without such flow clears REVERSE (R334), and `ErrorFlags` bit [12] with it (Table 14.7). -/
def execReverseCleared (s : State) : Res :=
  match s.flow.revClear with
  | none => ok s
  | some t =>
    when (decide (obj s Obj.ReverseAlarmTime * 32768 ≤ ticks s - t) && getBit s Obj.FlowStatus 5) s fun s =>
      clrErr (objBit s Obj.FlowStatus 5 false) 12

/-- Set a zero offset, held within ±`ZeroOffsetLimit` (R338); whether it was clamped. -/
def setZero (s : State) (p : Nat) (v : Int) : State × Bool :=
  let lim : Int := obj s Obj.ZeroOffsetLimit
  let c := clampI (-lim) lim v
  (setI 4 s (Obj.ZeroOffset (p + 1)) c, decide (c ≠ v))

/-- Journal the offsets as they stand (R357). -/
def journalZeros (s : State) : State :=
  (journal s (subs4.map (fun p => (Obj.ZeroOffset p, obj s (Obj.ZeroOffset p))))).2

/-- A write that lowers `ZeroOffsetLimit` clamps the offsets that stand beyond it (R338). -/
def clampZeros (s : State) : State :=
  if subs4.all (fun p => decide ((objI 4 s (Obj.ZeroOffset p)).natAbs ≤ obj s Obj.ZeroOffsetLimit)) then s
  else journalZeros ([0, 1, 2, 3].foldl (fun t p => (setZero t p (objI 4 t (Obj.ZeroOffset (p + 1)))).1) s)

/-- One path of the zero-flow loop (R337, R338). -/
def zeroLoopPath (s : State) (e : Nat × Int) : State :=
  let z := objI 4 s (Obj.ZeroOffset (e.1 + 1))
  let (t, hit) := setZero s e.1 (z + roundDiv (e.2 * 15625000 - z * 32768) (32768 * 2 ^ obj s Obj.ZeroAdaptShift))
  if hit then
    let u := objBit t Obj.FlowStatus 8 true
    if mfind u.flow.limitDay e.1 = some (upDay u + 1) then u
    else raise { u with flow := { u.flow with limitDay := mset u.flow.limitDay e.1 (upDay u + 1) } } 0x2207
  else t

/-- The zero-flow loop over the paths with results of the cycle (R337); ZERO_LIMIT shows the last run. -/
def zeroLoop (s : State) : State := s.flow.diffs.foldl zeroLoopPath (objBit s Obj.FlowStatus 8 false)

/-- Is a cycle's |Q_raw| below `ZeroAdaptFlow`? -/
def zeroQuiet (s : State) (raw : Option Int) : Bool :=
  match raw with
  | none => false
  | some x => decide (x.natAbs * 36 < obj s Obj.ZeroAdaptFlow * 10000)

/-- The hold of the zero-flow loop breaks (R337); offsets the loop has set since it began to adapt are journalled with it (R357; log entry 91). -/
def breakHold (s : State) : State :=
  let t := if s.flow.adapting then journalZeros s else s
  objBit (journalKept { t with flow := { t.flow with holdSince := none, adapting := false } }) Obj.FlowStatus 7 false

/-- The zero-flow hold and loop after a cycle (R337, R353). -/
def zeroAfterCycle (s : State) : State :=
  if s.flow.zeroCal.isSome then s
  else if zeroQuiet s s.flow.qRaw then
    let t := journalKept { s with flow := { s.flow with holdSince := some (s.flow.holdSince.getD (ticks s)) } }
    if t.flow.adapting then zeroLoop t else t
  else breakHold s

/-- |Q_raw| has stayed below `ZeroAdaptFlow` for `ZeroAdaptHold` (R337): the loop adapts from the cycle just ended. -/
def execZeroAdapting (s : State) : Res :=
  match s.flow.holdSince with
  | none => ok s
  | some t =>
    when (decide (obj s Obj.ZeroAdaptHold * 32768 ≤ ticks s - t) && !s.flow.adapting && s.flow.zeroCal.isNone) s fun s =>
      zeroLoop (objBit (journalKept { s with flow := { s.flow with adapting := true } }) Obj.FlowStatus 7 true)

/-- `ZeroCalibrate` (R340, R353). -/
def startZeroCal (s : State) : State :=
  let t := breakHold s
  { t with flow := { t.flow with zeroCal := some ⟨64, [], []⟩ } }

/-- A cycle of the zero calibration. -/
def zeroCalCycle (s : State) : State :=
  match s.flow.zeroCal with
  | none => s
  | some z =>
    if z.left = 0 then s
    else { s with flow := { s.flow with zeroCal := some ⟨z.left - 1,
      s.flow.diffs.foldl (fun m e => mset m e.1 (mget m e.1 0 + e.2)) z.sums,
      s.flow.diffs.foldl (fun m e => mset m e.1 (mget m e.1 0 + 1)) z.counts⟩ } }

/-- ZERO_CALIBRATED with its failure flag (R340, R353): payload byte 0 is 1 where it failed. -/
def zeroCalFailed (s : State) : State := raise { s with flow := { s.flow with zeroCal := none } } 0x2209 [1]

/-- The 64 cycles of a zero calibration have ended (R340). -/
def execZeroCalibrated (s : State) : Res :=
  match s.flow.zeroCal with
  | none => ok s
  | some z =>
    when (decide (z.left = 0)) s fun s =>
      if (enabledPaths s).any (fun p => decide (mget z.counts p 0 < 56)) then zeroCalFailed s
      else
        let t := (enabledPaths s).foldl (fun a p =>
          (setZero a p (roundDiv (mget z.sums p 0 * 15625000) (32768 * (mget z.counts p 0 : Nat)))).1) s
        let u := (journal t ((enabledPaths t).map (fun p => (Obj.ZeroOffset (p + 1), obj t (Obj.ZeroOffset (p + 1)))))).2
        raise { u with flow := { u.flow with zeroCal := none } } 0x2209 [0]

/-- `SosExpected` of the temperature at the flow sensor's position (R342), none without a valid one (R355). -/
def sosExpected (s : State) : Option Nat :=
  if s.code = .gs then none
  else (mfind s.temp.inUse (if obj s Obj.FlowSensorPosition = 1 then 1 else 2)).map (fun th =>
    fitN 4 17 (roundDiv (tableAt waterSound (holdTemp 150000 th)) 1000))

/-- Is the mean speed of sound outside its band (R342, R343)? None where the test is skipped. -/
def sosOff (s : State) (mean : Int) : Option Bool :=
  if s.code = .gs then some (decide (mean < obj s Obj.SosMin) || decide ((obj s Obj.SosMax : Int) < mean))
  else (sosExpected s).map (fun e => decide (obj s Obj.SosTolerance * e < (mean - e).natAbs * 10000))

/-- The fluid test of a cycle (R342, R343, R355): runs of cycles outside; the first cycle inside clears SOS_MISMATCH (log entry 24). -/
def sosTest (s : State) (rs : List PathRes) : State :=
  let t := match sosExpected s with
    | none => s
    | some e => setObj s Obj.SosExpected e
  if rs = [] then t
  else
    let mean := roundDiv ((rs.map (·.c)).foldl (· + ·) 0) rs.length
    let u := setObj t Obj.SpeedOfSound (fitN 4 18 mean)
    match sosOff u mean with
    | none => u
    | some true => { u with flow := { u.flow with sosRun := u.flow.sosRun + 1 } }
    | some false => objBit { u with flow := { u.flow with sosRun := 0 } } Obj.FlowStatus 6 false

/-- The speed of sound has been outside its band for 64 consecutive cycles (R342, R343). -/
def execSosMismatch (s : State) : Res :=
  when (decide (64 ≤ s.flow.sosRun) && !getBit s Obj.FlowStatus 6) s fun s => raise (objBit s Obj.FlowStatus 6 true) 0x2206

/-- What the weight choice of a cycle comes to (R344 to R346): a set with the paths to sum over and whether it is the fallback of one cycle, no result, or
the flow error. -/
inductive Choice where
  | use (set : Nat) (oneCycle : Bool)
  | noResult
  | error
deriving DecidableEq, Repr

/-- The weight set of a cycle from the enabled paths failed for flow and the enabled others without a result (R344 to R346). -/
def chooseWeights (s : State) (failed missing : List Nat) : Choice :=
  match failed, missing with
  | [], [] => .use 0 false
  | [], [m] => if hasFallback s m then .use (m + 1) true else .noResult
  | [], _ => .noResult
  | [f], ms => if hasFallback s f then (if ms = [] then .use (f + 1) false else .noResult) else .error
  | _, _ => .error

/-- A cycle without a flow (R336). -/
def noFlow (s : State) (i : Option Nat) : State :=
  let t := match i with
    | none => s
    | some n => { s with accs := { s.accs with unmeasured := s.accs.unmeasured + n } }
  objBit { t with flow := { t.flow with qRaw := none, q := none } } Obj.FlowStatus 4 false

/-- A cycle with a flow: S, Q_raw and Q, the increment, heat, and the reverse spells (R328 to R335, R373). -/
def withFlow (s : State) (set : Nat) (rs : List PathRes) (i : Option Nat) : State :=
  let v := meanVelocity s set rs
  let raw := rawFlow (obj s Obj.FlowArea) v (obj s Obj.PipeFactor)
  let q := correctedFlow s raw
  let rate := toMlh q
  let t := setMany s [(Obj.MeanVelocity, fitI 4 19 v), (Obj.FlowRateRaw, fitI 4 20 (toMlh raw)),
    (Obj.FlowRate, ofInt 4 (clampI (-2147483647) 2147483647 rate)), (Obj.ActiveWeightSet, set)]
  let u := showError t (decide (2147483647 < rate.natAbs))
  let w := objBit u Obj.FlowStatus 4 (decide (raw.natAbs * 36 < obj s Obj.LowFlowCutoff * 10000))
  let x := { w with flow := { w.flow with qRaw := some raw, q := some q } }
  match i with
  | none => heatStep x 0 0
  | some n => heatStep (addVolume x (increment q n) n) (if 0 < q then increment q n else 0) n

/-- Runs of R341 per path. -/
def trackNoResult (s : State) (out : List Nat) : State :=
  let runs := (([0, 1, 2, 3].filter (fun p => out.contains p)).map (fun p => (p, mget s.flow.noResRun p 0 + 1)))
  { s with flow := { s.flow with noResRun := runs } }

/-- Velocities and speeds of sound of the paths with a delivered result (Table 10.1 step 2). -/
def showPaths (s : State) (rs : List PathRes) : State :=
  rs.foldl (fun a r => setMany a [(Obj.PathVelocity (r.path + 1), fitI 4 21 r.v), (Obj.PathSpeedOfSound (r.path + 1), fitN 4 22 r.c)]) s

/-- The weight choice with its flags and events (R344 to R346, R354), then the flow (R328 to R336). -/
def applyChoice (s : State) (c : Choice) (failed : Bool) (rs : List PathRes) (i : Option Nat) : State :=
  match c with
  | .use set one =>
    let t := objBit (degraded (flowErrorOff s) failed) Obj.FlowStatus 3 false
    withFlow (if one then bump t Obj.FallbackCycles else t) set (rs.filter (fun r => decide (r.path + 1 ≠ set))) i
  | .noResult =>
    heatStep (noFlow (objBit (degraded (flowErrorOff s) failed) Obj.FlowStatus 3 true) i) 0 0
  | .error => heatStep (noFlow (objBit (setObj (flowErrorOn s) Obj.ActiveWeightSet 0xFF) Obj.FlowStatus 3 false) i) 0 0

/-- Has a path its geometry (R347)? -/
def hasGeometry (s : State) (p : Nat) : Bool := decide (obj s (Obj.PathLength (p + 1)) ≠ 0) && decide (obj s (Obj.PathAxial (p + 1)) ≠ 0)

/-- A cycle while the flow is not configured (R347): no flow, nothing integrated or counted; the figures of the paths have been formed (R326). -/
def notConfigured (s : State) : State :=
  heatStep (objBit { s with flow := { s.flow with qRaw := none, q := none } } Obj.FlowStatus 2 true) 0 0

/-- The flow arithmetic of a cycle (Table 10.1; R325 to R348). The tests of R327 and R341 and the mean of R342 are over paths with geometry; the others have
no velocity. -/
def flowStep (s : State) : State :=
  let t := noteGas s
  let rs := ((enabledPaths t).filter (goodCycle t)).map (pathRes t)
  let (tested, out) := usedResults t (rs.filter (fun r => hasGeometry t r.path))
  let used := tested ++ rs.filter (fun r => !hasGeometry t r.path)
  let failed := (enabledPaths t).filter (fun p => getBit t Obj.FlowPathExcluded p)
  let live := tested.filter (fun r => !failed.contains r.path)
  let missing := (enabledPaths t).filter (fun p => !failed.contains p && !live.any (fun r => decide (r.path = p)))
  let u := trackNoResult (showPaths { t with flow := { t.flow with diffs := used.map (fun r => (r.path, r.down - r.up)) } } rs) out
  let v := if !flowConfigured u then notConfigured u
    else applyChoice (objBit u Obj.FlowStatus 2 false) (chooseWeights u failed missing) (!failed.isEmpty) live (cycleInterval u)
  sosTest (zeroCalCycle (zeroAfterCycle (trackReverse v v.flow.q))) live

/-- Would a commit of the flow shadows be accepted (R331)? -/
def flowOk (s : State) : Bool :=
  let n := objNext s Obj.SegCount
  (List.range (n - 1)).all (fun i => decide (objNext s (Obj.SegFlow (i + 1)) < objNext s (Obj.SegFlow (i + 2))))
    && subs4.all (fun p => decide (objNext s (Obj.PathAxial p) ≤ objNext s (Obj.PathLength p)))
    && (let w := (((enabledPaths s).map (fun p => objNext s (Obj.WeightsPrimary (p + 1)))).sum)
        decide (32704 ≤ w) && decide (w ≤ 32832))

/-- K_p of each path from its geometry (chapter 10); 0 without one. -/
def pathFactors (s : State) : State :=
  subs4.foldl (fun a p =>
    let l : Int := obj a (Obj.PathLength p)
    let x : Int := obj a (Obj.PathAxial p)
    setObj a (Obj.PathFactorK p) (if x = 0 then 0 else fitN 4 23 (roundDiv (l * l) (2 * x)))) s

/-- Pending flow settings apply at the cycle start (R350), with K_p of each path. -/
def applyFlow (s : State) : State := if pendingOf s .flow then pathFactors (applyPend s .flow) else s

end Sys2Proof.Machine
end

