-- ==== Sys2Proof/Machine/Cycle.lean ====
section
/-! DEFINITION. The acoustic cycle as a whole (chapters 09, 10, 19): its start, its results with the arithmetic, and a transducer
service. -/

namespace Sys2Proof.Machine

/-! ### Transducer service (chapter 19) -/

/-- `ServiceStatus`: state and reason. -/
def setService (s : State) (state reason : Nat) : State := setObj s Obj.ServiceStatus (state * 256 + reason)

/-- Refuse a service calibration with its reason (R656). -/
def refuseService (s : State) (reason : Nat) : State :=
  raise (setService { s with flow := { s.flow with collect := none } } 3 reason) 0x6005 [reason]

/-- End a collection, where one runs, with a reason (R660, R661, R666). -/
def endCollect (s : State) (reason : Nat) : State := if s.flow.collect.isSome then refuseService s reason else s

/-- The path in service, if any (R649). -/
def servedPath (s : State) : Option Nat := [0, 1, 2, 3].find? (pathServed s)

/-- Action 0x01 of `TransducerReplace` (R649): none where it returns RANGE. -/
def serviceBegin (s : State) (p : Nat) : Option State :=
  if 3 < p ∨ obj s (Obj.PathEnable (p + 1)) = 0 ∨ obj s Obj.PathInService ≠ 0 ∨ s.flow.zeroCal.isSome then none
  else some (raise (commitObjs s [(Obj.PathInService, 2 ^ p)]).2 0x6003 [p])

/-- Action 0x03 (R650). -/
def serviceCancel (s : State) (p : Nat) : Option State :=
  if 3 < p ∨ !pathServed s p then none
  else
    let t := acquire (commitObjs s [(Obj.PathInService, 0)]).2 p
    some { t with flow := { t.flow with collect := none } }

/-- Action 0x02 (R650, R651, R665): the check of R319 on p, then the collection. -/
def serviceComplete (s : State) (p : Nat) : Option State :=
  if 3 < p ∨ !pathServed s p ∨ obj s Obj.TdcMode = 2 then none
  else
    let t := setService (checkPath s p) 1 0
    if getBit t (Obj.PathStatus (p + 1)) 4 || getBit t (Obj.PathStatus (p + 1)) 5 then some (refuseService t 5)
    else
      let u := acquire t p
      some { u with flow := { u.flow with collect := some ⟨false, 0, 0, 0, 0, [], [], 0, true⟩ } }

/-- Mean of a sum over a count, rounded. -/
def meanOf (sum cnt : Nat) : Int := roundDiv sum cnt

/-- c_ref in mm/s (R653), none where the service is refused with reason 7. -/
def refSpeed (s : State) (p : Nat) (c : Collect) : Option Int :=
  let others := ((enabledPaths s).filter (fun q => decide (q ≠ p) && decide (56 ≤ mget c.cCounts q 0))).map
    (fun q => meanOf (mget c.cSums q 0) (mget c.cCounts q 0))
  if 2 ≤ others.length then some (roundDiv (median2 others) 2)
  else if s.code ≠ .gs ∧ c.sosAll then some (meanOf c.sosSum c.cycles)
  else none

/-- `PathDelay`_new in ps (R654). -/
def newDelay (s : State) (p : Nat) (c : Collect) (cref : Int) : Int :=
  let n : Int := c.results
  roundDiv (c.sumMid * 15625 * cref - (obj s (Obj.PathLength (p + 1)) : Int) * 1000000000 * (2 * n * 32768)) (2 * n * 32768 * cref)

/-- `ZeroOffset`_new in fs (R654). -/
def newZero (c : Collect) : Int := roundDiv (c.sumDiff * 15625000) (32768 * (c.results : Int))

/-- The 64-cycle collection has ended (R652 to R655). -/
def finishService (s : State) (p : Nat) (c : Collect) : State :=
  if c.results < 56 then refuseService s 2
  else
    match refSpeed s p c with
    | none => refuseService s 7
    | some cref =>
      let old := obj s (Obj.PathDelay (p + 1))
      let d := newDelay s p c cref
      let z := newZero c
      if obj s Obj.ServiceDelayLimit < (d - old).natAbs then refuseService s 3
      else if obj s Obj.ZeroOffsetLimit < z.natAbs then refuseService s 4
      else
        let t := serviceCommit { s with flow := { s.flow with collect := none } }
          [(Obj.PathDelay (p + 1), fitN 4 24 d), (Obj.ZeroOffset (p + 1), ofInt 4 z), (Obj.PathInService, 0), (Obj.ServiceStatus, 512)]
        raise t 0x6004 ([p] ++ pl 3 (min old 0xFFFFFF) ++ pl 3 (min (fitN 4 24 d) 0xFFFFFF))

/-- Book a cycle of the collection (R651 to R654). -/
def collectCycle (s : State) (p : Nat) (c : Collect) : Collect :=
  let r := pathRes s p
  let rs := (usedResults s (((enabledPaths s).filter (goodCycle s)).map (pathRes s))).1.filter (fun x => decide (x.path ≠ p))
  let got := goodCycle s p
  let e := sosExpected s
  { started := true, cycles := c.cycles + 1
    results := c.results + if got then 1 else 0
    sumMid := c.sumMid + if got then r.up + r.down else 0
    sumDiff := c.sumDiff + if got then r.down - r.up else 0
    cSums := rs.foldl (fun m x => mset m x.path (mget m x.path 0 + x.c.toNat)) c.cSums
    cCounts := rs.foldl (fun m x => mset m x.path (mget m x.path 0 + 1)) c.cCounts
    sosSum := c.sosSum + e.getD 0
    sosAll := c.sosAll && e.isSome }

/-- The service collection of a cycle (R651, R652). -/
def serviceCycle (s : State) : State :=
  match s.flow.collect, servedPath s with
  | some c, some p =>
    if !c.started && !goodCycle s p then s
    else if s.flow.qRaw.isSome && !zeroQuiet s s.flow.qRaw then refuseService s 1
    else
      let c' := collectCycle s p c
      let t := { s with flow := { s.flow with collect := some c' } }
      if 64 ≤ c'.cycles then finishService t p c' else t
  | _, _ => s

/-! ### The cycle -/

/-- A collection whose last cycle was abandoned ends before the next one starts (R651, R313). -/
def finishFull (s : State) : State :=
  match s.flow.collect, servedPath s with
  | some c, some p => if 64 ≤ c.cycles then finishService s p c else s
  | _, _ => s

/-- Settings that wait for the cycle start apply (R312, R350, R379); a service collection they meet ends (R660). -/
def applyAtCycle (s : State) : State :=
  let a := finishFull s
  let t := if pendingOf a .acoustic || pendingOf a .flow then endCollect a 8 else a
  let u := applyFlow (applyAcoustic t)
  if pendingOf u .heat then applyPend u .heat else u

/-- Start a cycle (R308, R311 to R314, R321, R351): its settings, its stride, its plan of shots, the temperatures it uses. -/
def startCycle (s : State) (own : Bool) : State :=
  let t := applyStride (applyAtCycle { s with tdc := { s.tdc with pairLost := false } })
  let now := ticks t
  let u := match t.acou.cycleStart with
    | none => t
    | some b => setObj t Obj.ActualCyclePeriod ((now - b) % 2 ^ 32)
  let v := setObj u Obj.FlowPathExcluded (failedForFlow u)
  objBit { v with
    clk := { v.clk with mclk := true }
    pads := { v.pads with vdrv := true }
    temp := { v.temp with inUse := tempsNow v }
    acou := { v.acou with
      running := true, plan := planOf v, shots := [], heldTick := false, onTick := own
      ownTicks := if own then v.acou.ownTicks + 1 else 0
      prevStart := v.acou.cycleStart, cycleStart := some now, noCycleRun := 0, ticks := v.acou.ticks + 1
      capture := match v.acou.capture with
        | none => none
        | some n => some (n + 1)
      sampleNow := v.acou.sampleArm, sampleArm := none } } Obj.CycleStatus 1 false

/-- A cycle start tick that runs no cycle (R336, R356): its interval is unmeasured; `PathFailCycles` of them in a row are a flow error. -/
def noCycle (s : State) : State :=
  let now := ticks s
  let t := unmeasured s (intervalFrom s.acou.cycleStart s.acou.lastNoCycle) now
  let n := s.acou.noCycleRun + 1
  let u := trackReverse (breakHold { t with
    acou := { t.acou with lastNoCycle := if t.acou.cycleStart.isSome then some now else none, noCycleRun := n, ownTicks := 0, heldTick := false } }) none
  if obj u Obj.PathFailCycles ≤ n ∧ flowConfigured u then setObj (flowErrorOn u) Obj.ActiveWeightSet 0xFF else u

/-- A cycle start tick (R310, R315, R387): starts a cycle, is held as an overrun, runs no cycle, or waits for the conversion before the first cycle. -/
def execCycleStartTick (s : State) (vbat vbk : Nat := 0) : Res :=
  when (isFull s) s fun s =>
    let t := wakeMeasure (startCclk s) vbat vbk
    if t.acou.running then
      let u := bump { t with acou := { t.acou with heldTick := true, ownTicks := 0 } } Obj.OverrunCount
      if getBit u Obj.CycleStatus 0 then u else raise (objBit u Obj.CycleStatus 0 true) 0x2101
    else if obj t Obj.TdcMode = 2 ∨ t.pw.hfFailed then noCycle t
    else if t.temp.firstDue then startConversion { t with acou := { t.acou with heldTick := true } }
    else startCycle t true

/-- The N-th completed cycle takes a latch (R462). -/
def cycleLatch (s : State) : State :=
  let n := s.tally.sinceLatch + 1
  if obj s Obj.TallyLatchCycles ≤ n then latch { s with tally := { s.tally with sinceLatch := 0 } } .plain
  else { s with tally := { s.tally with sinceLatch := n } }

/-- After the last shot: the loops and path results, then the flow arithmetic, heat, service, the transducer check asked for, the latch, and the next
cycle when its tick is held (R303 to R306, R310, R311, R316, R326, R374, R463, R655). -/
def execCycleResults (charge : Nat) (s : State) : Res :=
  when (s.acou.running && s.acou.plan.isEmpty && !shotOut s) s fun s =>
    let t := [0, 1, 2, 3].foldl pathResults s
    let u := setObj (bump { t with pads := { t.pads with vdrv := false } } Obj.CycleCount) Obj.ChargePerCycle (charge % 2 ^ 32)
    let v := serviceCycle (flowStep u)
    let w := if v.acou.checkPending then checkPaths { v with acou := { v.acou with checkPending := false } } else v
    let x := cycleLatch { w with acou := { w.acou with running := false, shots := [] } }
    startDue (if x.acou.heldTick then startCycle x false else x)

/-- The last discharge of a conversion ends (R362 to R364, R367 to R370, R377, R384, R385); a first cycle that waited for it starts, on its own tick (R387). -/
def execConversionEnd (s : State) : Res :=
  match s.temp.conv with
  | none => ok s
  | some c =>
    when (c.todo.isEmpty) s fun s =>
      let t := conversionResults s c
      if s.temp.firstDue && t.acou.heldTick && !t.acou.running then startCycle t true else t

end Sys2Proof.Machine
end

