-- ==== Sys2Proof/Machine/Elec.lean ====
section
/-! DEFINITION. The electricity channel of XQ40-LE (chapter 12): line cycles, blocks, fundamental quantities, voltage events. -/

namespace Sys2Proof.Machine

/-- Does the channel run (R388): XQ40-LE, `ElecEnable` 1, full mode? -/
def elecRuns (s : State) : Bool := isFull s && decide (s.code = .le) && decide (obj s Obj.ElecEnable = 1)

/-- L of R393. -/
def blockCycles (s : State) : Nat := if obj s Obj.LatchCycles = 0 then obj s Obj.NominalFrequency else obj s Obj.LatchCycles

/-- Is NO_LINE set? -/
def noLine (s : State) : Bool := getBit s Obj.ElecStatus 0

/-- Open an empty block. -/
def freshBlock (s : State) : State :=
  { s with elec := { s.elec with blockOpen := true, blockTick := ticks s, sums := ⟨0, 0, 0, 0, 0, 0⟩, cycles := 0, fund := [], pSum := [], qSum := [], vAbs := 0 } }

/-- A current sample of channel c in 2⁻³² code of the ×1 scale: from the modulator its gain selects, ×16 codes divided by `CurrentX16Ratio`. -/
def sampleCurrent (s : State) (c : Nat) (x1 x16 : Int) : Int :=
  if obj s (Obj.CurrentGain c) = 16 then roundDiv (x16 * 2 ^ 48) (obj s (Obj.CurrentX16Ratio c)) else x1 * 2 ^ 32

/-- The coil integrator (R392): y[n−1] × (1 − 2⁻¹²) + x[n] in Q32.32. -/
def coilStep (y x : Int) : Int := roundDiv (y * 4095) 4096 + x

/-- The phase of a channel as a delay of its voltage samples, in 2⁻¹⁶ sample (R401): φ / (360° × f_line), φ in 0.001°, at 4000 S/s; at `NominalFrequency`
while no line is measured (log entry 93). -/
def phaseDelay (s : State) (c : Nat) : Int :=
  let f : Int := if obj s Obj.LineFrequency = 0 then obj s Obj.NominalFrequency * 1000 else obj s Obj.LineFrequency
  roundDiv (mget s.elec.corrPhase c 0 * 100 * 65536) (9 * f)

/-- A voltage sample delayed by d, in 2⁻¹⁶ code, of the newest samples: exact for whole samples, else left open (log entry 93). -/
def delayedVoltage (past : List Int) (d : Int) : Int :=
  if 0 ≤ d ∧ d % 65536 = 0 then (past[(d / 65536).toNat]?).getD 0 * 65536 else Config.delayedSample d past

/-- The corrected current of channel c for a sample, with the integrator's new value (R392, R401): coil first, then the gain in force. -/
def correctedCurrent (s : State) (c : Nat) (x1 x16 : Int) : Int × Int :=
  let x := sampleCurrent s c x1 x16
  let y := coilStep (mget s.elec.coil c 0) x
  (roundDiv ((if obj s (Obj.CurrentSensor c) = 2 then y else x) * (1000000 + mget s.elec.corrGain c 0)) 1000000, y)

/-- Is a ×1 current or the voltage of a sample at full scale (R418)? -/
def fullScale (x : ElecSample) : Bool := [x.v, x.a1, x.b1].any (fun c => decide (8388607 ≤ c.natAbs))

/-- A ×1 current or voltage sample at full scale (R418): OVERLOAD, logged once per onset; the sample counts as it is. -/
def overload (s : State) (x : ElecSample) : State :=
  if !fullScale x then s
  else
    let t := objBit { s with elec := { s.elec with clipped := true } } Obj.ElecStatus 1 true
    if getBit s Obj.ElecStatus 1 then t else raise t 0x2506

/-- A sample joins the histories, and the sums where a block is open (R390 to R392, R396, R401). -/
def sumSample (s : State) (x : ElecSample) : State :=
  let past := (x.v :: s.elec.vPast).take 4
  let a := correctedCurrent s 1 x.a1 x.a16
  let b := correctedCurrent s 2 x.b1 x.b16
  let q := s.elec.sums
  let sums : BlockSums := if s.elec.blockOpen then
      { m := q.m + 1, sumVV := q.sumVV + x.v.natAbs * x.v.natAbs
        sumIIa := q.sumIIa + a.1.natAbs * a.1.natAbs, sumIIb := q.sumIIb + b.1.natAbs * b.1.natAbs
        sumVIa := q.sumVIa + delayedVoltage past (phaseDelay s 1) * a.1, sumVIb := q.sumVIb + delayedVoltage past (phaseDelay s 2) * b.1 }
    else q
  { s with elec := { s.elec with
      sums := sums, vPast := past, coil := mset (mset s.elec.coil 1 a.2) 2 b.2
      peakNow := mset (mset s.elec.peakNow 1 (max (mget s.elec.peakNow 1 0) x.a1.natAbs)) 2 (max (mget s.elec.peakNow 2 0) x.b1.natAbs) } }

/-- Take one sample (R390 to R392, R396, R401, R418). -/
def addSample (s : State) (x : ElecSample) : State := overload (sumSample s x) x

/-- Take the samples up to now. -/
def addSamples (s : State) (xs : List ElecSample) : State := xs.foldl addSample s

/-- A line cycle is complete: its largest ×1 codes join those of the one before (R390). -/
def closePeaks (s : State) : State :=
  { s with elec := { s.elec with
      peaks := [1, 2].foldl (fun m c => mset m c ((mget s.elec.peakNow c 0 :: mget m c []).take 2)) s.elec.peaks
      peakNow := [] } }

/-- Count time without line into `NoLineSeconds` (R425, R427). -/
def countNoLine (s : State) (again : Bool) : State :=
  match s.elec.noLineSince with
  | none => s
  | some t =>
    let n := s.accs.noLineTicks + (ticks s - t)
    setObj { s with accs := { s.accs with noLineTicks := n }, elec := { s.elec with noLineSince := if again then some (ticks s) else none } }
      Obj.NoLineSeconds (n / 32768 % 2 ^ 32)

/-- Line frequency in mHz of a period in MCLK periods, scaled under R106. -/
def lineFrequency (s : State) (period : Nat) : Int := roundDiv (32000000000 * 10000000000) ((period : Int) * hfScale s)

/-- Add a line cycle's phasors to the block (R399): P₁ = Re(V₁·I₁*), Q₁ = Im(V₁·I₁*). -/
def addCycle (s : State) (period : Nat) (p : Phasors) : State :=
  let pa := p.vRe * p.aRe + p.vIm * p.aIm
  let qa := p.vIm * p.aRe - p.vRe * p.aIm
  let pb := p.vRe * p.bRe + p.vIm * p.bIm
  let qb := p.vIm * p.bRe - p.vRe * p.bIm
  let w := (period : Int) * hfScale s
  let add := fun (m : NMap Int) (k : Nat) (v : Int) => mset m k (mget m k 0 + v)
  { s with elec := { s.elec with
      cycles := s.elec.cycles + 1
      fund := add (add s.elec.fund 1 (pa * w)) 2 (pb * w)
      pSum := add (add s.elec.pSum 1 pa) 2 pb
      qSum := add (add s.elec.qSum 1 qa) 2 qb
      vAbs := s.elec.vAbs + isqrt ((p.vRe * p.vRe + p.vIm * p.vIm).natAbs * 2 ^ 32) } }

/-- A positive-going zero crossing of the fundamental voltage ends a line cycle (R393, R399, R425, R427): `period` in MCLK periods. The first one after a
start opens the first block; with NO_LINE set it only counts toward its clearing. `samples` are those up to it. -/
def execLineCycleEnd (period : Nat) (ph : Phasors) (s : State) (samples : List ElecSample := []) : Res :=
  when (elecRuns s) s fun s0 =>
    let s := closePeaks (addSamples s0 samples)
    let f := lineFrequency s period
    let good := decide (45000 ≤ f) && decide (f ≤ 65000)
    let t := { s with elec := { s.elec with
      lastEnd := some (ticks s), badFreq := !good, validCycles := if good then s.elec.validCycles + 1 else 0 } }
    if noLine t then t
    else
      let u := setObj t Obj.LineFrequency (fitN 4 26 f)
      if u.elec.blockOpen then addCycle u period ph else freshBlock (countNoLine u false)

/-- No line-cycle end for 200 ms, or a frequency outside 45 Hz to 65 Hz (R425); the mains window is discarded (R441). -/
def execNoLine (s : State) : Res :=
  let gone : Bool := match s.elec.lastEnd, s.elec.noLineSince with
    | some t, _ => decide (200 * 32768 ≤ (ticks s - t) * 1000)
    | none, some t => decide (200 * 32768 ≤ (ticks s - t) * 1000)
    | none, none => false
  when (elecRuns s && !noLine s && (gone || s.elec.badFreq)) s fun s =>
    let t := raise (setObj (objBit s Obj.ElecStatus 0 true) Obj.LineFrequency 0) 0x2504
    let u := { t with elec := { t.elec with validCycles := 0, noLineSince := some (t.elec.noLineSince.getD (ticks t)) } }
    mainsDiscard (if u.elec.blockOpen then u else freshBlock u)

/-- After 10 valid consecutive cycles NO_LINE clears (R425). -/
def execLineRestored (s : State) : Res :=
  when (elecRuns s && noLine s && decide (10 ≤ s.elec.validCycles)) s fun s =>
    raise (objBit (countNoLine s false) Obj.ElecStatus 0 false) 0x2505

/-- The factor of Ts' = 250 µs × (1 − `HfCorrection`), in 10⁻¹⁰, whatever `HfMetrologyScale` says (chapter 12). -/
def sampleScale (s : State) : Int := 10000000000 - objI 4 s Obj.HfCorrection

/-- E of R396 in µJ: Σ v·i in 2⁻⁴⁸ code², kV in pV and kI in pA per code, h the factor of Ts'. -/
def blockEnergy (sumVI kV kI h : Int) : Int := roundDiv (sumVI * kV * kI * h * 250) (2 ^ 48 * 1000000000000000000 * 1000000 * 10000000000)

/-- `ActivePower` in mW (R397). -/
def blockPower (e : Int) (m : Nat) (h : Int) : Int := roundDiv (e * 10000000000000) (250 * (m : Int) * h)

/-- `VoltageRms` in mV (R397). -/
def rmsVoltage (sumVV kV m : Nat) : Int := roundSqrt (sumVV * kV * kV) (m * 1000000000000000000)

/-- `CurrentRms` in µA (R397). -/
def rmsCurrent (sumII kI m : Nat) : Int := roundSqrt (sumII * kI * kI) (2 ^ 64 * m * 1000000000000)

/-- Fundamental energy of a channel in µJ (R399): codes² × MCLK periods × 10¹⁰ to µJ. -/
def fundEnergy (x kV kI : Int) : Int := roundDiv (x * kV * kI) (1000000000000000000 * 32000000 * 10000000000)

/-- Block mean of P₁ or Q₁ in mW or mvar. -/
def fundPower (x kV kI : Int) (n : Nat) : Int := roundDiv (x * kV * kI) ((n : Int) * 1000000000000000000000)

/-- Add a signed energy to an import and an export accumulator (R396): never subtracted. -/
def addSigned (imp exp : NMap Nat) (r : Nat) (e : Int) : NMap Nat × NMap Nat :=
  if 0 ≤ e then (mset imp r (mget imp r 0 + e.toNat), exp) else (imp, mset exp r (mget exp r 0 + e.natAbs))

/-- One channel's block into register set r (R396 to R400): channel c with its sums. -/
def channelBlock (s : State) (c r : Nat) (b : BlockSums) (sumVI : Int) (sumII : Nat) : State :=
  let kV := obj s Obj.VoltageScale
  let kI := obj s (Obj.CurrentScale c)
  let h := sampleScale s
  let e := blockEnergy sumVI kV kI h
  let p := blockPower e b.m h
  let v := rmsVoltage b.sumVV kV b.m
  let i := rmsCurrent sumII kI b.m
  let va := roundDiv (v * i) 1000000
  let t := setMany s [(Obj.ActivePower r, fitI 4 27 p), (Obj.ApparentPower r, fitN 4 28 va), (Obj.PowerFactor r, fitI 2 29 (roundDiv (p * 1000) va))]
  let creep := decide (p.natAbs < obj t Obj.CreepThreshold)
  let u := objBit t Obj.ElecStatus (r + 1) creep
  let fundOk := !noLine u && decide (0 < u.elec.cycles)
  let w := if fundOk then
      setMany u [(Obj.ActivePowerFund r, fitI 4 30 (fundPower (mget u.elec.pSum c 0) kV kI u.elec.cycles)),
        (Obj.ReactivePowerFund r, fitI 4 31 (fundPower (mget u.elec.qSum c 0) kV kI u.elec.cycles))]
    else u
  if creep then w
  else
    let tot := addSigned w.accs.elecImp w.accs.elecExp r e
    let fu := if fundOk then addSigned w.accs.fundImp w.accs.fundExp r (fundEnergy (mget w.elec.fund c 0) kV kI)
      else (w.accs.fundImp, w.accs.fundExp)
    { w with accs := { w.accs with elecImp := tot.1, elecExp := tot.2, fundImp := fu.1, fundExp := fu.2 } }

/-- Voltage of a block, and its fundamental and distortion (R397, R399, R400). -/
def voltageBlock (s : State) (b : BlockSums) : State :=
  let kV := obj s Obj.VoltageScale
  let v := rmsVoltage b.sumVV kV b.m
  let t := setObj s Obj.VoltageRms (fitN 4 32 v)
  if noLine t || decide (t.elec.cycles = 0) then t
  else
    let f := roundDiv ((t.elec.vAbs : Int) * kV) ((t.elec.cycles : Int) * 65536 * 1000000000)
    let d := v * v - f * f
    let thd : Int := if d < 0 ∨ f ≤ 0 then Config.freeResult 33 d else roundSqrt (d.toNat * 100000000) (f * f).toNat
    setMany t [(Obj.VoltageFund, fitN 4 34 f), (Obj.VoltageThd, fitN 2 35 thd)]

/-- Breakpoints of the electricity corrector of a channel: on `CurrentRms` in µA, gain or phase (R401). -/
def elecSegs (s : State) (c : Nat) (gain : Bool) : List (Int × Int) :=
  (List.range (obj s (Obj.ElecSegCount c))).map (fun i =>
    let k := i + 1
    (((if c = 1 then obj s (Obj.ElecSegCurrentA k) else obj s (Obj.ElecSegCurrentB k)) : Int) * 1000,
     if gain then (if c = 1 then objI 4 s (Obj.ElecSegGainA k) else objI 4 s (Obj.ElecSegGainB k))
     else (if c = 1 then objI 4 s (Obj.ElecSegPhaseA k) else objI 4 s (Obj.ElecSegPhaseB k))))

/-- The corrector in force for a channel's next block (R401). -/
def nextCorrector (s : State) (c : Nat) (i : Int) : State :=
  { s with elec := { s.elec with
      corrGain := mset s.elec.corrGain c (segError (elecSegs s c true) i)
      corrPhase := mset s.elec.corrPhase c (segError (elecSegs s c false) i) } }

/-- Pending electricity settings apply (R419); a channel switched on starts its modulators at ×1 (R427), one switched off stops. -/
def applyElec (s : State) : State :=
  let was := decide (obj s Obj.ElecEnable = 1)
  let t := applyPend s .elec
  let now := decide (obj t Obj.ElecEnable = 1)
  let forced := fun (a : State) (c : Nat) =>
    if obj a (Obj.GainForce c) = 1 then setObj a (Obj.CurrentGain c) 1
    else if obj a (Obj.GainForce c) = 2 then setObj a (Obj.CurrentGain c) 16 else a
  let u := [1, 2].foldl forced t
  if now && !was then
    setMany { u with
      clk := { u.clk with mclk := true }
      elec := { u.elec with blockOpen := false, vPast := [], coil := [], peakNow := [], peaks := [], lastEnd := none, badFreq := false, validCycles := 0, clipped := false, noLineSince := some (ticks u) } }
      [(Obj.CurrentGain 1, if obj u (Obj.GainForce 1) = 2 then 16 else 1), (Obj.CurrentGain 2, if obj u (Obj.GainForce 2) = 2 then 16 else 1)]
  else if was && !now then { u with elec := { u.elec with blockOpen := false, noLineSince := none } }
  else u

/-- The neutral check of R402: two `CurrentRms` in µA. -/
def neutralCheck (s : State) (a b : Nat) : State :=
  let hi := max a b
  let off := decide (obj s Obj.NeutralTolerance * hi < (max a b - min a b) * 1000) && decide (100000 < hi)
  let t := objBit s Obj.ElecStatus 4 off
  if off && !getBit s Obj.ElecStatus 4 then raise t 0x2507 else t

/-- The energies of a block (R394, R396 to R402): channel B off, neutral or second load. -/
def blockEnergies (s : State) (b : BlockSums) : State :=
  let kV := obj s Obj.VoltageScale
  let ia := fitN 4 36 (rmsCurrent b.sumIIa (obj s (Obj.CurrentScale 1)) b.m)
  let t := nextCorrector (setObj (voltageBlock s b) (Obj.CurrentRms 1) ia) 1 ia
  if obj t Obj.ChannelBMode = 0 then channelBlock t 1 1 b b.sumVIa b.sumIIa
  else
    let ib := fitN 4 37 (rmsCurrent b.sumIIb (obj t (Obj.CurrentScale 2)) b.m)
    let u := nextCorrector t 2 ib
    if obj u Obj.ChannelBMode = 2 then
      channelBlock (channelBlock (setObj u (Obj.CurrentRms 2) ib) 1 1 b b.sumVIa b.sumIIa) 2 2 b b.sumVIb b.sumIIb
    else
      let ea := blockEnergy b.sumVIa kV (obj u (Obj.CurrentScale 1)) (sampleScale u)
      let eb := blockEnergy b.sumVIb kV (obj u (Obj.CurrentScale 2)) (sampleScale u)
      neutralCheck (if ea.natAbs < eb.natAbs then channelBlock (setObj u (Obj.CurrentRms 1) ib) 2 1 b b.sumVIb b.sumIIb
        else channelBlock u 1 1 b b.sumVIa b.sumIIa) ia ib

/-- OVERLOAD at a block close: set while the block held a clipped sample (log entry 24). -/
def blockOverload (s : State) : State :=
  objBit { s with elec := { s.elec with clipped := false } } Obj.ElecStatus 1 s.elec.clipped

/-- The energies of the block in progress with its last samples, and the time without line (R394, R422, R425). -/
def closeEnergies (s : State) (samples : List ElecSample) : State :=
  let t := addSamples s samples
  blockOverload (blockEnergies (if noLine t then countNoLine t true else t) t.elec.sums)

/-- Has the block in progress reached its end (R393): L line cycles, or L / `NominalFrequency` seconds while NO_LINE stands (R425)? -/
def blockOver (s : State) : Bool :=
  if noLine s then decide (blockCycles s * 32768 ≤ (ticks s - s.elec.blockTick) * obj s Obj.NominalFrequency)
  else decide (blockCycles s ≤ s.elec.cycles)

/-- A block closes (R393 to R402, R418, R419, R425): at its L-th line-cycle end, or by time while NO_LINE stands. Its line-cycle end is a mains reference
(R395, R441). `samples` are those since the last command that brought some. -/
def execBlockClose (samples : List ElecSample) (s : State) : Res :=
  when (elecRuns s && s.elec.blockOpen && blockOver s) s fun s =>
    let t := closeEnergies s samples
    let u := if noLine t then t else mainsReference t t.elec.cycles
    let v := freshBlock (latch u .plain)
    if pendingOf v .elec then applyElec v else v

/-- Does R390 let channel c change its gain after these samples: to ×16 when the largest ×1 code of each of the last 2 complete line cycles was below
419 430, to ×1 at the first sample whose ×16 code exceeds ±7 340 032? -/
def gainMaySwitch (s : State) (c : Nat) (to16 : Bool) (samples : List ElecSample) : Bool :=
  decide (obj s (Obj.GainForce c) = 0) && if to16 then
    decide (obj s (Obj.CurrentGain c) = 1) && decide ((mget s.elec.peaks c []).length = 2) && (mget s.elec.peaks c []).all (fun p => decide (p < 419430))
  else decide (obj s (Obj.CurrentGain c) = 16) && match samples.getLast? with
    | none => false
    | some x => decide (7340032 < (if c = 1 then x.a16 else x.b16).natAbs)

/-- A current channel changes between ×1 and ×16 at a sample boundary (R390, R391): the samples up to it are taken at the old gain; on the way to ×1 the
sample that exceeds the limit, the last one, is already taken from the ×1 modulator. -/
def execGainSwitch (channelB to16 : Bool) (s : State) (samples : List ElecSample := []) : Res :=
  let c := if channelB then 2 else 1
  when (elecRuns s) s fun s =>
    if !gainMaySwitch s c to16 samples then addSamples s samples
    else if to16 then setObj (addSamples s samples) (Obj.CurrentGain c) 16
    else addSamples (setObj (addSamples s samples.dropLast) (Obj.CurrentGain c) 1) (samples.drop (samples.length - 1))

/-- A sample of which a ×1 current or the voltage reaches full scale (R418). -/
def execCurrentOverload (s : State) (x : ElecSample := {}) : Res := when (elecRuns s) s fun s => addSample s x

/-- A threshold in 0.1 % of `NominalVoltage`, as tenths of a millivolt. -/
def bandEdge (s : State) (permille : Nat) : Nat := obj s Obj.NominalVoltage * permille

/-- U½ leaves the band (R403): `uHalf` in mV. -/
def execVoltageExcursionStart (uHalf : Nat) (s : State) : Res :=
  let low := decide (uHalf * 10 < bandEdge s (obj s Obj.SagThreshold))
  when (elecRuns s && s.elec.excursion.isNone && (low || decide (bandEdge s (obj s Obj.SwellThreshold) < uHalf * 10))) s fun s =>
    { s with elec := { s.elec with excursion := some ⟨t48 s, ticks s, low⟩ } }

/-- Log a voltage event (R403, R404, R479): its duration word and extreme in mV. -/
def voltageEvent (s : State) (x : Excursion) (duration extreme : Nat) : State :=
  let code := if x.low then (if extreme * 10 < bandEdge s (obj s Obj.InterruptThreshold) then 0x2503 else 0x2501) else 0x2502
  let k := Obj.VoltageEventCount (if code = 0x2501 then 1 else if code = 0x2502 then 2 else 3)
  let t := setObj (bump s k) Obj.LastVoltageEvent (code * 2 ^ 128 + x.time * 2 ^ 64 + duration * 2 ^ 32 + extreme % 2 ^ 32)
  raiseAt { t with elec := { t.elec with excursion := none } } code x.time (pl 4 duration ++ pl 4 (extreme % 2 ^ 32))

/-- The duration word of Table 12.1 (R405): half cycles up to 65 535, else whole seconds. -/
def durationWord (s : State) (x : Excursion) (halves : Nat) : Nat :=
  if halves ≤ 65535 then halves else 2 ^ 31 + (ticks s - x.tick) / 32768 % 2 ^ 31

/-- Half cycles of an excursion in which no line cycle is detected, at 1 / (2 × `NominalFrequency`) (R405). -/
def blindHalves (s : State) (x : Excursion) : Nat :=
  if noLine s then (ticks s - max x.tick (s.elec.lastEnd.getD x.tick)) * 2 * obj s Obj.NominalFrequency / 32768 else 0

/-- U½ returns inside the band by `VoltageHysteresis` (R403 to R405): `halfCycles` are those of detected line cycles. -/
def execVoltageExcursionEnd (uHalf extreme halfCycles : Nat) (s : State) : Res :=
  match s.elec.excursion with
  | none => ok s
  | some x =>
    let back := decide (bandEdge s (obj s Obj.SagThreshold + obj s Obj.VoltageHysteresis) ≤ uHalf * 10)
      && decide (uHalf * 10 + bandEdge s (obj s Obj.VoltageHysteresis) ≤ bandEdge s (obj s Obj.SwellThreshold))
    when (elecRuns s && back) s fun s => voltageEvent s x (durationWord s x (max 1 (halfCycles + blindHalves s x))) extreme

/-- `CopReset` (R406). -/
def copResetPart (s : State) : State :=
  setObj { s with elec := { s.elec with
    heat0 := obj s Obj.HeatEnergy, cool0 := obj s Obj.CoolingEnergy
    imp0 := [(1, obj s (Obj.ElecEnergyImport 1)), (2, obj s (Obj.ElecEnergyImport 2))] } } Obj.CopResetTime (t48 s)

/-- Would a commit of the electricity shadows be accepted: breakpoints strictly ascend (Table 12.5)? -/
def elecOk (s : State) : Bool :=
  (List.range (objNext s (Obj.ElecSegCount 1) - 1)).all (fun i => decide (objNext s (Obj.ElecSegCurrentA (i + 1)) < objNext s (Obj.ElecSegCurrentA (i + 2))))
    && (List.range (objNext s (Obj.ElecSegCount 2) - 1)).all (fun i =>
      decide (objNext s (Obj.ElecSegCurrentB (i + 1)) < objNext s (Obj.ElecSegCurrentB (i + 2))))

/-- One LF edge of core time: CCLK's run time, the lock and freeze counts of R237 and R246, the timer stamps that wait for
it (Table 04.5), and electricity settings that wait for an LF edge (R419). -/
def coreEdge (s : State) : State :=
  let t := if s.clk.cclk = .stopped then s else setObj s Obj.CclkRunTime ((obj s Obj.CclkRunTime + 1) % 2 ^ 64)
  let u := { t with
    ports := { t.ports with seqs := t.ports.seqs.map (fun e =>
      (e.1, if lockWaiter t e.1 then { e.2 with lockTicks := e.2.lockTicks + 1 } else e.2)) }
    front := { t.front with freezeTicks := if obj t Obj.ArbiterFreeze = 0 then 0 else t.front.freezeTicks + 1 } }
  let v := askStamp u
  if pendingOf v .elec && decide (obj v Obj.ElecEnable = 0) && isFull v then applyElec v else v

/-- One LF edge (R428, R114): what a step does when no command waits (log entry 3). -/
def lfEdge (s : State) : State := if gladeRuns s then (if coreUp s then coreEdge (countEdge s) else countEdge s) else s

end Sys2Proof.Machine
end

