-- ==== Sys2Proof/Machine/Pulse.lean ====
section
/-! DEFINITION. Pulse inputs and outputs (chapter 12), and what ends, overflows or revokes a timer grant (chapter 08). -/

namespace Sys2Proof.Machine

/-- What an input keeps beside its objects; i is 1 to 4. -/
def pulseIn (s : State) (i : Nat) : PulseIn := mget s.pulse.ins i ⟨false, false, none, 0, 0, false, false, false, none⟩

/-- Store it. -/
def setIn (s : State) (i : Nat) (x : PulseIn) : State := { s with pulse := { s.pulse with ins := mset s.pulse.ins i x } }

/-- Are the pulse inputs served (chapter 12: full mode only; R59 on a loss of VIO), and is this one on? -/
def inputOn (s : State) (i : Nat) : Bool := isFull s && s.ports.vioOk && decide (obj s (Obj.PulseInputMode i) ≠ 0)

/-- Is an input in a quadrature pair (R410)? Pair k is inputs 2k + 1 and 2k + 2. -/
def inQuad (s : State) (i : Nat) : Bool := bitOf (obj s Obj.QuadratureEnable) ((i - 1) / 2)

/-- The other input of a pair. -/
def pairMate (i : Nat) : Nat := if i % 2 = 1 then i + 1 else i - 1

/-- The level that counts (R407, R410): `PulseEdge`, and the rising edge in quadrature. -/
def countLevel (s : State) (i : Nat) : Bool := if inQuad s i then true else decide (obj s (Obj.PulseEdge i) = 1)

/-- Ask the interval timer for the fine stamps of an input (R413): one input at a time. -/
def requestStamps (s : State) (i : Nat) : State :=
  if s.pulse.stamping.isSome then s
  else requestTimer { s with pulse := { s.pulse with stamping := some i }, clk := { s.clk with mclk := true } } .pulse

/-- Count one pulse of input i into the accumulator of input `acc` (R407 to R410, R413). -/
def countPulse (s : State) (i acc : Nat) : State :=
  let x := pulseIn s i
  let now := ticks s
  let t := setIn { s with accs := { s.accs with pulse := mset s.accs.pulse acc (mget s.accs.pulse acc 0 + 1) } } i
    { x with captured := false, holdOff := true, lastTick := some now }
  let u := objBit t (Obj.PulseInputStatus i) 2 false
  match x.lastTick with
  | none => u
  | some l =>
    let v := setObj u (Obj.PulseRate i) (fitN 4 38 (roundDiv 32768000 ((now : Int) - l)))
    if obj v (Obj.PulseRateFine i) = 1 ∧ (now - l) * 1000 < 30 * 32768 then requestStamps v i else v

/-- A pulse that passes R407: in quadrature the second input's level gives the direction (R410). -/
def passedPulse (s : State) (i : Nat) (mateLevel : Bool) : State :=
  if inQuad s i then
    if i % 2 = 0 then setIn s i { pulseIn s i with captured := false }
    else countPulse s i (if mateLevel then i + 1 else i)
  else countPulse s i i

/-- Are two edges of a pair within one debounce time of the pair's first input (R410)? -/
def quadClash (s : State) (i : Nat) : Bool :=
  match (pulseIn s (pairMate i)).edgeTick with
  | none => false
  | some t => inQuad s i && decide ((ticks s - t) * 10000 < obj s (Obj.PulseDebounce (if i % 2 = 1 then i else i - 1)) * 32768)

/-- An edge of a pair too close to the other input's edge (R410): nothing is counted. -/
def quadError (s : State) (i : Nat) : State :=
  let m := pairMate i
  let t := setIn (setIn s i { pulseIn s i with captured := false }) m { pulseIn s m with captured := false }
  let k := (i - 1) / 2
  raiseOnce (bump t (Obj.QuadErrorCount (k + 1))) (0x260400 + k) 60 0x2604 []

/-- A captured edge that leaves an input at a level (R407, R408, R410, R424). -/
def captureEdge (s : State) (i : Nat) (level : Bool) : State :=
  let clash := quadClash s i
  let s1 := objBit (startCclk s) (Obj.PulseInputStatus i) 0 level
  let t := setIn s1 i { pulseIn s1 i with edgeTick := some (ticks s1) }
  if clash then quadError t i
  else if level ≠ countLevel t i then t
  else if (pulseIn t i).holdOff then
    raiseOnce (objBit (bump t (Obj.PulseOverRateCount i)) (Obj.PulseInputStatus i) 2 true) (0x260300 + i) 60 0x2603 []
  else if obj t (Obj.PulseDebounce i) = 0 then passedPulse t i (getBit t (Obj.PulseInputStatus (pairMate i)) 0)
  else setIn t i { pulseIn t i with captured := true }

/-- A PIn edge is captured asynchronously (R407, R408), unless a wire-cut check masks it (R412). -/
def execPulseEdgeCapture (input : Fin 4) (level : Bool) (s : State) : Res :=
  let i := input.val + 1
  when (inputOn s i && !(pulseIn s i).masked) s fun s => captureEdge s i level

/-- `PulseDebounce` after the edge the input is sampled (R407, R409, R410, R426). -/
def execPulseDebounceEnd (input : Fin 4) (level otherLevel : Bool) (s : State) : Res :=
  let i := input.val + 1
  when (inputOn s i && (pulseIn s i).captured) s fun s =>
    let t := objBit s (Obj.PulseInputStatus i) 0 level
    if level = countLevel t i then passedPulse t i otherLevel else setIn t i { pulseIn t i with captured := false }

/-- `PulseHoldOff` after a counted pulse ends (R408). -/
def execPulseHoldOffEnd (input : Fin 4) (s : State) : Res :=
  let i := input.val + 1
  when ((pulseIn s i).holdOff) s fun s => setIn s i { pulseIn s i with holdOff := false }

/-- Every `WireCutInterval` a mode 3 input is checked: its edge capture is masked and the level before it kept (R411, R412). -/
def execWireCutCheck (input : Fin 4) (level : Bool) (s : State) : Res :=
  let i := input.val + 1
  when (inputOn s i && decide (obj s (Obj.PulseInputMode i) = 3) && !(pulseIn s i).checking) s fun s =>
    setIn s i { pulseIn s i with checking := true, masked := true, before := level }

/-- At the end of the 1 ms check the input reads intact when low, cut when high; two in a row set or clear WIRE_CUT (R411). -/
def execWireCutSample (input : Fin 4) (level : Bool) (s : State) : Res :=
  let i := input.val + 1
  when ((pulseIn s i).checking) s fun s =>
    let x := pulseIn s i
    let cut := if level then x.cutRun + 1 else 0
    let good := if level then 0 else x.okRun + 1
    let t := setIn s i { x with checking := false, cutRun := cut, okRun := good }
    let k := Obj.PulseInputStatus i
    if 2 ≤ cut ∧ !getBit t k 1 then raise (objBit t k 1 true) 0x2601
    else if 2 ≤ good ∧ getBit t k 1 then raise (objBit t k 1 false) 0x2602
    else t

/-- 200 µs after the pull-up returns the mask ends; a level that differs from the one before the check is an edge captured now (R412). -/
def execWireCutMaskEnd (input : Fin 4) (level : Bool) (s : State) : Res :=
  let i := input.val + 1
  when ((pulseIn s i).masked && !(pulseIn s i).checking) s fun s =>
    let x := pulseIn s i
    let t := setIn s i { x with masked := false }
    if level ≠ x.before ∧ inputOn t i then captureEdge t i level else t

/-- An output pulse of `PulseOutWidth` ends (R415): one owed pulse less, one emitted more, the space begins. -/
def execPulseOutEnd (output : Fin 3) (s : State) : Res :=
  let o := output.val + 1
  when ((outSt s o).pulsing) s fun s =>
    let t := setMany (driveOut s o false) [(Obj.PulseOutBacklog o, obj s (Obj.PulseOutBacklog o) - 1),
      (Obj.PulseOutCount o, (obj s (Obj.PulseOutCount o) + 1) % 2 ^ 64)]
    setOut t o ⟨false, true, ticks t⟩

/-- The space after an output pulse ends and the next owed pulse starts (R415). -/
def execPulseOutSpaceEnd (output : Fin 3) (s : State) : Res :=
  let o := output.val + 1
  when ((outSt s o).spacing) s fun s => startOut (setOut s o ⟨false, false, ticks s⟩) o

/-- Is a pulse output source present on the ordering code (R421, Table 12.2)? -/
def sourcePresent (c : OrderCode) (src : Nat) : Bool := decide (src = 0) || (decide (src ≤ 13) && regPresent c (outSourceReg src))

/-- Would a commit of the pulse shadows be accepted (R421)? -/
def pulseOk (s : State) : Bool := [1, 2, 3].all (fun o => sourcePresent s.code (objNext s (Obj.PulseOutSource o)))

/-! ### Grants that end -/

/-- The fine stamps of a pulse input (R413): the rate from the difference of two hits, scaled under R106. -/
def stampsEnd (s : State) (g : Grant) : State :=
  match s.pulse.stamping with
  | none => s
  | some i =>
    let t := { s with pulse := { s.pulse with stamping := none } }
    match g.hits.filter (·.valid) with
    | a :: b :: _ =>
      setObj t (Obj.PulseRate i) (fitN 4 39 (roundDiv (32000000000 * 65536 * 10000000000) (((hitTime b : Int) - hitTime a) * hfScale t)))
    | _ => t

/-- Does the FIN measurement wait for an arm grant (R275)? -/
def finWants (s : State) : Bool :=
  match s.tdc.fin with
  | none => false
  | some f => f.t0.isNone || f.gateTick.isSome

/-- The results of a grant cross into the core together and go to its requester (R265, Table 08.2). -/
def grantOwner (s : State) (g : Grant) (samples : List Int) (edges : Nat) : State :=
  match g.req with
  | .sequencer => startDue (shotEnd s g samples)
  | .temperature => dischargeEnd s g
  | .frequency =>
    match g.stamp with
    | some k =>
      let t := askStamp (stampEnds s k (g.hits.any (·.valid)))
      if finWants t then requestTimer t .frequency else t
    | none => askStamp (finGrantEnd s g edges)
  | .pulse => stampsEnd s g

/-- End the grant: a capture armed for it, then its owner. -/
def endGrant (s : State) (g : Grant) (samples : List Int) (edges : Nat) : State :=
  let t := captureGrant s g false
  grantOwner { t with tdc := { t.tdc with grant := none } } g samples edges

/-- A grant ends at its last hit or its window's close (R265, R296): the shot's samples in codes, the FIN edges counted since hit 0. -/
def execTimerGrantEnd (samples : List Int) (edges : Nat) (s : State) : Res :=
  match s.tdc.grant with
  | none => ok s
  | some g => ok (endGrant s g samples edges)

/-- The results a grant misses at the coarse overflow: OVF set, VALID clear (R266). -/
def overflowHits (s : State) (g : Grant) : List Hit :=
  (List.range (hitsWanted s g.req - g.hits.length)).map (fun i =>
    ⟨false, true, (pairFor s (g.hits.length + i)).getD 0, 0, 0, 0⟩)

/-- The coarse counter reaches 2²⁰ before the grant has its hits (R266, R281): the grant ends; an arm grant of FIN is not counted (R275). -/
def execTdcOverflow (s : State) : Res :=
  match s.tdc.grant with
  | none => ok s
  | some g =>
    when (decide (g.hits.length < hitsWanted s g.req)) s fun s =>
      let arm := decide (g.req = .frequency) && g.stamp.isNone
      let t := if arm then s else bump s Obj.TdcOverflowCount
      endGrant t { g with ovf := true, hits := g.hits ++ overflowHits s g } [] 0

/-- What a revoked requester does (Table 07.3, R275, R283, R380, R413): an LF edge stamp moves to the next LF edge. -/
def revokedOwner (s : State) (g : Grant) : State :=
  match g.req with
  | .sequencer => s
  | .temperature => conversionRevoked s
  | .frequency =>
    match g.stamp with
    | some k =>
      let t := stampEnds s k false
      if finWants t then requestTimer t .frequency else t
    | none => askStamp (finRevoked s)
  | .pulse => requestTimer s .pulse

/-- The sequencer's waiting request revokes a class N grant (R231, R282): its results are discarded, the calibration stays valid. -/
def execTimerPreempt (s : State) : Res :=
  match s.tdc.grant with
  | none => ok s
  | some g =>
    when (decide (g.req ≠ .sequencer) && s.tdc.waiting.any (fun w => w.1 == .sequencer)) s fun s =>
      let t := bump (captureGrant s g true) (Obj.TimerPreemptCount (timerSub g.req))
      revokedOwner { t with tdc := { t.tdc with grant := none } } g

end Sys2Proof.Machine
end

