-- ==== Sys2Proof/Machine/Radio.lean ====
section
/-! DEFINITION. The radio: bands, the frame on air, security and counters, the airtime accountant, transmit queue and classes, connections' sending side,
the listen rule, and the timed radio events (chapter 17, R561 to R616; chapter 18 beacons and scans). -/

namespace Sys2Proof.Machine

/-- Band figures of Table 17.1 and Table 17.17: centre of channel 0 (Hz), spacing (Hz), channels, rate (bit/s), sensitivity (dBm). -/
def bandTable (b : Nat) : Nat × Nat × Nat × Nat × Int :=
  match b with
  | 0 => (169406250, 12500, 6, 4800, -120)
  | 1 => (433062500, 25000, 69, 9600, -116)
  | 2 => (863050000, 100000, 70, 50000, -108)
  | _ => (902200000, 200000, 129, 100000, -105)

/-- Channels of a band. -/
def bandChannels (b : Nat) : Nat := (bandTable b).2.2.1

/-- Rate of the selected band, bit/s. -/
def bandRate (s : State) : Nat := (bandTable (obj s Obj.RadioBand)).2.2.2.1

/-- The whole channel of channel n (R590), Hz. -/
def channelSpan (s : State) (n : Nat) : Int × Int :=
  let (c, sp, _) := bandTable (obj s Obj.RadioBand)
  ((c + sp * n : Nat) - (sp / 2 : Nat), (c + sp * n : Nat) + (sp / 2 : Nat))

/-- Channel defaults per band (Table 17.2): `MapFirstChannel`, `ChannelMap`, `AdvChannel`:01 to 03, `InstallerChannel`. -/
def bandDefaults (b : Nat) : List (Nat × Nat) :=
  let row : Nat → Nat → Nat → Nat → Nat → List (Nat × Nat) := fun m a1 a2 a3 i =>
    [(Obj.ChannelMap, m), (Obj.MapFirstChannel, 0), (Obj.AdvChannel 1, a1), (Obj.AdvChannel 2, a2), (Obj.AdvChannel 3, a3), (Obj.InstallerChannel, i)]
  match b with
  | 0 => row 0x3F 0 2 5 3
  | 1 => row 0xFFFFFFFFFFFFFFFF 0 34 68 34
  | 2 => row 0x00FC000000000000 53 64 65 65
  | _ => row 0xFFFFFFFFFFFFFFFF 0 64 128 64

/-- Every set bit of a map names a channel of the band, and one bit is set (R563). -/
def mapFits (band map first : Nat) : Bool :=
  decide (map ≠ 0) && (List.range 64).all (fun k => !bitOf map k || decide (first + k < bandChannels band))

/-- Map channel of event e (R577). -/
def hopChannel (map h b e : Nat) : Nat :=
  let u := (e * h + b) % 64
  if bitOf map u then u
  else
    let set := (List.range 64).filter (bitOf map)
    (set[u % set.length]?).getD 0

/-- Channel of a connection's event e, on the map that holds at e (R577, R629). -/
def Conn.channel (c : Conn) (e : Nat) : Nat :=
  match c.update with
  | some (at_, map, first) =>
    if (e + 65536 - at_) % 65536 < 32768 then first + hopChannel map c.h c.b e else c.first + hopChannel c.map c.h c.b e
  | none => c.first + hopChannel c.map c.h c.b e

/-- Low edge, high edge (kHz), airtime limit (ms), power limit (dBm), flags and dwell limit (ms) of a band entry (Table 17.11). -/
def entryLow (v : Nat) : Nat := v / 2 ^ 96
def entryHigh (v : Nat) : Nat := v / 2 ^ 64 % 2 ^ 32
def entryLimit (v : Nat) : Nat := v / 2 ^ 32 % 2 ^ 32
def entryPower (v : Nat) : Int := toInt 1 (v / 2 ^ 24 % 256)
def entryLbt (v : Nat) : Bool := bitOf v 16
def entryDwells (v : Nat) : Bool := bitOf v 17
def entryDwell (v : Nat) : Nat := v % 2 ^ 16

/-- The entry a span is charged to: the first one in use whose range contains it (R590). -/
def chargedEntry (s : State) (span : Int × Int) : Option Nat :=
  [1, 2, 3, 4, 5, 6, 7, 8].find? (fun i =>
    let v := obj s (Obj.BandEntry i)
    decide (entryLimit v ≠ 0) && decide (((entryLow v * 1000 : Nat) : Int) ≤ span.1) && decide (span.2 ≤ ((entryHigh v * 1000 : Nat) : Int)))

/-- Airtime charged in the current bucket and the 59 before it, ms (R591; `BandAirtimeUsed`). -/
def airtimeUsed (s : State) (i : Nat) : Nat := ((List.range 60).map (fun b => mget s.radio.buckets (i * 64 + b) 0)).sum

/-- Airtime used on a channel in the last `DwellPeriod` seconds, ms (R592). -/
def dwellUsed (s : State) (chan : Nat) : Nat :=
  ((s.radio.dwell.filter (fun d => decide (d.1 = chan) && decide (ticks s < d.2.1 + obj s Obj.DwellPeriod * 32768))).map (fun d => d.2.2)).sum

/-- Fewer than 50 channels of the connection map fall in DWELL entries: HOP_COUNT_LOW (R592). -/
def hopCountLow (s : State) : Bool :=
  let inDwell := (List.range 64).filter (fun k => bitOf (obj s Obj.ChannelMap) k &&
    match chargedEntry s (channelSpan s (obj s Obj.MapFirstChannel + k)) with
    | some i => entryDwells (obj s (Obj.BandEntry i))
    | none => false)
  decide (inDwell ≠ []) && decide (inDwell.length < 50)

/-- Airtime of n bytes on air, rounded up to whole ms (R591). -/
def airMs (s : State) (n : Nat) : Nat := ceilDiv (n * 8000) (bandRate s)

/-- Bytes on air of a MAC frame of L bytes (Table 17.3). -/
def onAirLength (l : Nat) : Nat := 4 + 2 + 1 + l + 2

/-- Transmit current at a power, mA (Table 17.17); no figure is stated at other powers (log entry 8). -/
def txCurrent (power : Int) : Nat := if power = 14 then 35 else if power = 10 then 22 else (Config.freeResult 40 power).toNat

/-- Charge estimated for a frame, nAh (R600). -/
def frameCharge (ms : Nat) (power : Int) : Nat := ceilDiv ((ms * txCurrent power + 10) * 10) 36

/-- One step of PN9, x⁹ + x⁵ + 1 (R567). -/
def pn9Step (r : Nat) : Nat := r / 2 + (r + r / 32) % 2 * 256

/-- Whiten bytes with PN9 from register r, the register's low bits first (R567; log entry 26). -/
def whiten (r : Nat) (l : List Byte) : List Byte :=
  match l with
  | [] => []
  | b :: t => (b ^^^ BitVec.ofNat 8 (r % 256)) :: whiten (pn9Step (pn9Step (pn9Step (pn9Step (pn9Step (pn9Step (pn9Step (pn9Step r)))))))) t

/-- The bytes on air of a MAC frame (Table 17.3), each sent least significant bit first. -/
def airBytes (mac : List Byte) : List Byte :=
  let body := bytesOf 1 mac.length ++ mac
  [0x55, 0x55, 0x55, 0x55, 0x6B, 0xD2] ++ whiten 0x1FF (body ++ bytesOf 2 (crc16 body))

/-- Bytes as numbers, and back. -/
def nums (l : List Byte) : List Nat := l.map BitVec.toNat
def bytes (l : List Nat) : List Byte := l.map (BitVec.ofNat 8)

/-- Bytes 0 to 9 of a MAC frame (Table 17.4). -/
def macHeader (control grove dst src counter margin : Nat) : List Byte :=
  bytesOf 1 control ++ bytesOf 2 grove ++ bytesOf 1 dst ++ bytesOf 1 src ++ bytesOf 4 counter ++ bytesOf 1 margin

/-- Nonce of R571. -/
def nonceOf (identity counter control : Nat) : List Nat := pl 8 identity ++ pl 4 counter ++ [control]

/-- A secured MAC frame (R571, Table 17.4). -/
def secureMac (key identity control grove dst src counter margin : Nat) (payload : List Byte) : List Byte :=
  let h := macHeader control grove dst src counter margin
  let (c, t) := Aes.ccmSeal key (nonceOf identity counter control) (nums h) (nums payload)
  h ++ bytes c ++ bytes t

/-- Payload of a received secured frame whose MIC matches under a key and sender (R571, R572). -/
def openAir (key identity : Nat) (f : AirFrame) : Option (List Byte) :=
  if !f.control.getLsbD 2 then none
  else
    let h := macHeader f.control.toNat f.groveId.toNat f.dst.toNat f.src.toNat f.counter.toNat f.margin.toNat
    (Aes.ccmOpen key (nonceOf identity f.counter.toNat f.control.toNat) (nums h) (nums f.payload) (nums f.mic)).map bytes

/-- Is the part a crown, a stem (R20)? -/
def isCrown (s : State) : Bool := decide (obj s Obj.GroveRole = 2)
def isStem (s : State) : Bool := decide (obj s Obj.GroveRole = 1)

/-- The grove of the part's frames: a crown's `GroveId`, the grove a stem has joined, else 0xFFFF (Table 17.4). -/
def ownGrove (s : State) : Nat := if isCrown s then obj s Obj.GroveId else s.radio.grove

/-- Own short id as source: 0x00 crown. -/
def ownShort (s : State) : Nat := if isCrown s then 0 else obj s Obj.GroveShortId

/-- A neighbour at the values a join gives it (R622, R573, R595): power at the largest R566 allows. -/
def Nbr.fresh (identity key : Nat) : Nbr :=
  ⟨identity, key, 1, 0, 0, 0, false, 0, none, 127, none, 50, 0, 0, 0, 0, none, none⟩

/-- A neighbour by peer number: 0 the crown, 1 to 255 a stem. -/
def nbr (s : State) (p : Nat) : Option Nbr := mfind s.radio.nbrs p

/-- Store a neighbour. -/
def setNbr (s : State) (p : Nat) (n : Nbr) : State := { s with radio := { s.radio with nbrs := mset s.radio.nbrs p n } }

/-- Has the peer a connection? -/
def connected (s : State) (p : Nat) : Bool :=
  match nbr s p with
  | some n => n.conn.isSome
  | none => false

/-- May the radio transmit and receive: full mode, not resting, crystal healthy for this wake (R613, R614). -/
def radioUp (s : State) : Bool := isFull s && !getBit s Obj.RadioStatus 4 && !s.pw.hfFailed

/-- May it transmit (R600: not under R81)? -/
def mayTransmit (s : State) : Bool := radioUp s && !s.pw.low

/-- Largest power R566 allows in an entry, dBm at the antenna side of the PA. -/
def powerLimit (s : State) (i : Nat) : Int :=
  let g : Int := obj s Obj.PaGain
  min (objI 1 s Obj.TxPowerMax) (min (entryPower (obj s (Obj.BandEntry i))) (14 + g))

/-- P for a wanted power in an entry (R566, R595). -/
def powerIn (s : State) (i : Nat) (want : Int) : Int := clampI (-10 + (obj s Obj.PaGain : Int)) (powerLimit s i) want

/-- What the accountant says of a frame (R590 to R594, R77). -/
inductive Gate where
  | send | noEntry | duty | dwell | budget | listen
deriving DecidableEq, Repr

/-- The accountant's answer for a frame of a class on a span and channel, with its airtime, wanted power, and whether it has been listened for or answers
within an event. -/
def gate (s : State) (cls : Nat) (span : Int × Int) (chan ms : Nat) (want : Int) (clear : Bool) : Gate :=
  match chargedEntry s span with
  | none => .noEntry
  | some i =>
    let v := obj s (Obj.BandEntry i)
    if entryLimit v < airtimeUsed s i + ms then .duty
    else if entryDwells v && decide (entryDwell v < dwellUsed s chan + ms) then .dwell
    else if decide (2 ≤ cls) && decide (objI 4 s Obj.BudgetBucket < frameCharge ms (powerIn s i want - obj s Obj.PaGain)) then .budget
    else if entryLbt v && !clear then .listen
    else .send

/-- The synthesizer starts with its carrier corrected by −`HfCorrection` (R106); what the MAC does now is pending work (R111). -/
def startRadio (s : State) : State :=
  let t := startCclk s
  { t with radio := { t.radio with synth := -objI 4 s Obj.HfCorrection } }

/-- Put a frame on air: charged to its entry and channel, RFSW high, PAEN high with an external PA (R564, R566, R591). `entry`: the queue entry that goes with
it and leaves the queue with its last bit. -/
def emit (s : State) (control peer : Nat) (air : List Byte) (span : Int × Int) (chan ms : Nat) (want : Int) (train : Nat) (entry : Option Nat) : State :=
  let i := (chargedEntry s span).getD 0
  let p := powerIn s i want - obj s Obj.PaGain
  let t := setObj (startRadio s) Obj.TxAirtimeTotal ((obj s Obj.TxAirtimeTotal + ms) % 2 ^ 64)
  { t with
    radio := { t.radio with
      air := t.radio.air ++ [⟨control, peer, air, chan, p, ms, train, entry, i, ticks t⟩]
      buckets := mupd t.radio.buckets (i * 64 + t.radio.bucket) 0 (· + ms)
      dwell := (t.radio.dwell.filter (fun d => decide (ticks t < d.2.1 + obj t Obj.DwellPeriod * 32768))) ++ [(chan, ticks t, ms)] }
    pads := { t.pads with rfsw := true, paen := decide (obj t Obj.PaGain ≠ 0) } }

/-- DUTY_HOLD sets, logged once per onset (R591). -/
def dutyHold (s : State) : State :=
  if getBit s Obj.RadioStatus 0 then s else raise (objBit s Obj.RadioStatus 0 true) 0x5204

/-- BUDGET_HOLD sets (R77). -/
def budgetHold (s : State) : State := objBit s Obj.RadioStatus 1 true

/-- Link header of a compatibility frame: C, manufacturer, id, version, device type. -/
def compatHeader (s : State) (c : Nat) : List Byte :=
  bytesOf 1 c ++ (bytesOf 2 (obj s Obj.WmbusManufacturer)).reverse ++ (bytesOf 4 (obj s Obj.WmbusId)).reverse
    ++ bytesOf 1 (obj s Obj.WmbusVersion) ++ bytesOf 1 (obj s Obj.WmbusDeviceType)

/-- Queue the DATA frames of a subtype for a peer: whole up to 231 bytes, else a first and a last fragment (R568). -/
def enqueueData (s : State) (cls peer sub : Nat) (l : List Byte) : State :=
  if l.length ≤ 231 then enqueueTx s cls peer dataControl (bytesOf 1 sub ++ l)
  else enqueueTx (enqueueTx s cls peer dataControl (bytesOf 1 (sub + 64) ++ l.take 231)) cls peer dataControl (bytesOf 1 (sub + 128) ++ l.drop 231)

/-- Queue an access response for a Grove peer at class 2 (R569): DATA subtype 0x02, or RSP_UD with CI 0xA1 to the EN 13757-4 peer (R605). -/
def queueResponse (s : State) (p : Nat) (b : List Byte) : State :=
  if p = 256 then enqueueTx s 2 256 0x08 (compatHeader s 0x08 ++ [0xA1] ++ b) else enqueueData s 2 p 2 b

/-- Is there room in the TX queue for a response (R568, R598)? -/
def responseRoom (s : State) (p : Nat) (b : List Byte) : Bool :=
  decide (s.radio.txq.length + (if p = 256 ∨ b.length ≤ 231 then 1 else 2) ≤ 8)

/-- Put the first response that found no slot into the queue, when there is room now; its tag is free then (R598). -/
def flushHeld (s : State) : State :=
  match s.radio.heldResp with
  | [] => s
  | (p, slot, b) :: t =>
    let u := { s with radio := { s.radio with heldResp := t } }
    if responseRoom s p b then queueResponse (match slot with
      | some k => freeTag u k
      | none => u) p b
    else s

/-- Take an entry off the queue. -/
def dropEntry (s : State) (id : Nat) : State :=
  flushHeld { s with radio := { s.radio with txq := s.radio.txq.filter (fun e => e.id ≠ id) } }

/-- Show `GroveResult` (Table 18.2). -/
def groveResult (s : State) (code short : Nat) (resp : List Byte) : State :=
  { s with radio := { s.radio with result := padTo 250 0 (bytesOf 1 code ++ bytesOf 1 short ++ resp.take 248) } }

/-- An unfinished `GroveSend` to a peer ends without a response (Table 18.2 code 0x02, R638). -/
def sendFailed (s : State) (p : Nat) : State :=
  if s.radio.send = some p then groveResult { s with radio := { s.radio with send := none } } 2 p [] else s

/-- A lost request of a `GroveSend` ends it (Table 18.2: aged, retries exhausted). -/
def lostEntry (s : State) (e : TxEntry) : State :=
  if (e.payload.head?.map (fun b => b.toNat % 64)) = some 1 then sendFailed s e.peer else s

/-- A frame not sent for want of an entry (R590). -/
def noBandEntry (s : State) (e : Option TxEntry) : State :=
  let t := raiseOnce (bump s (Obj.TxDropCount 3)) (0x5206 * 65536) 3600 0x5206 []
  match e with
  | none => t
  | some x => lostEntry (dropEntry t x.id) x

/-- The queued frames for a peer's events, ascending class, oldest first (R596). -/
def forPeer (s : State) (p : Nat) : List TxEntry :=
  let l := s.radio.txq.filter (fun e => decide (e.peer = p) && !e.train && e.chan.isNone)
  [1, 2, 3, 4].flatMap (fun c => l.filter (fun e => decide (e.cls = c)))

/-- Secure a frame for a neighbour under its next counter (R571, R573 to R575, R611); none at the last counter. -/
def secureFor (s : State) (p : Nat) (control : Nat) (payload : List Byte) : Option (List Byte × State) :=
  match nbr s p with
  | none => none
  | some n =>
    if n.tx = 0xFFFFFFFF then none
    else
      let c := if n.resync then control + 1 else control
      let body := if n.resync then bytesOf 4 n.floor ++ payload else payload
      let m := match n.margin with
        | none => 0x80
        | some v => ofInt 1 v
      let mac := secureMac n.key (obj s Obj.DeviceIdentity) c (ownGrove s) p (ownShort s) n.tx m body
      some (mac, setNbr s p { n with tx := n.tx + 1, txSaved := if n.tx % 256 = 0 ∧ obj s Obj.StoreStage ≠ 2 then n.tx else n.txSaved })

/-- MAC frame length a payload for a neighbour takes. -/
def macLength (n : Nbr) (payload : List Byte) : Nat := 18 + payload.length + (if n.resync then 4 else 0)

/-- Drop the unacknowledged frame after `RetryLimit` sends (R579). -/
def exhaust (s : State) (p : Nat) : State :=
  match nbr s p with
  | none => s
  | some n => match n.out with
    | none => s
    | some o =>
      if o.sends < obj s Obj.RetryLimit then s
      else
        let t := raiseOnce (bump (setNbr s p { n with out := none }) (Obj.TxDropCount 4)) (0x520B * 65536) 3600 0x520B []
        match o.entry with
        | none => t
        | some id => match t.radio.txq.find? (fun e => e.id = id) with
          | none => t
          | some e => lostEntry (dropEntry t id) e

/-- The class a frame is charged under: its queue entry's, 0 for frames formed in the event (Table 17.13). -/
def classOfEntry (s : State) (id : Option Nat) : Nat :=
  match id with
  | none => 0
  | some i => match s.radio.txq.find? (fun e => e.id = i) with
    | none => 0
    | some e => e.cls

/-- Binary time at the end of the sync word of a frame that starts now, T48F16 (R583): preamble and sync word are 48 bits. -/
def syncTime (s : State) : Nat := (s.rtc.bin + 48 * 2 ^ 48 / bandRate s) / 2 ^ 32 % 2 ^ 64

/-- A Grove time payload carries the time at its own sync word (R583). -/
def stampTime (s : State) (payload : List Byte) : List Byte :=
  if payload.head? = some 4 then [4] ++ bytesOf 8 (syncTime s) else payload

/-- Send a new frame to a neighbour and, but for an ACK, hold it until it is acknowledged. -/
def sendNew (s : State) (p chan : Nat) (control : Nat) (payload : List Byte) (entry : Option Nat) (track : Bool) : State :=
  match secureFor s p control (stampTime s payload) with
  | none => s
  | some (mac, t) =>
    let want := match nbr t p with
      | some n => n.power
      | none => 127
    let u := emit t control p (airBytes mac) (channelSpan t chan) chan (airMs t (onAirLength mac.length)) want 0 none
    let v := { u with radio := { u.radio with more := bitOf control 1, await := track } }
    match nbr v p with
    | none => v
    | some n => if track then setNbr v p { n with out := some ⟨mac, entry, 1⟩ } else v

/-- What the accountant's answers other than "send" do to the frame (R590 to R592, R77). -/
def refusedBy (s : State) (g : Gate) (e : Option TxEntry) : State :=
  match g with
  | .noEntry => noBandEntry s e
  | .duty => dutyHold s
  | .budget => budgetHold s
  | _ => s

/-- Control byte of a frame with MORE when further frames wait for the peer. -/
def withMore (s : State) (p : Nat) (control : Nat) (n : Nat) : Nat := if n < (forPeer s p).length then control + 2 else control

/-- Send on a channel to a peer in its event (R578, R579): the unacknowledged frame again, else the first queued frame the accountant lets go, else the
fallback (POLL at an anchor, ACK as an answer). `answer`: within the event, exempt from the budget and from listening. -/
def sendInEvent (s : State) (p chan : Nat) (fallback : Nat) (answer clear : Bool) : Gate × State :=
  let s := exhaust s p
  match nbr s p with
  | none => (.send, s)
  | some n =>
    let span := channelSpan s chan
    let ok : Nat → Nat → Gate := fun cls len => gate s (if answer then 0 else cls) span chan (airMs s (onAirLength len)) n.power clear
    match n.out with
    | some o =>
      match ok (classOfEntry s o.entry) o.mac.length with
      | .send =>
        let t := emit s ((o.mac.headD 0).toNat) p (airBytes o.mac) span chan (airMs s (onAirLength o.mac.length)) n.power 0 none
        let u := { t with radio := { t.radio with more := bitOf ((o.mac.headD 0).toNat) 1, await := true } }
        (.send, setNbr u p { n with out := some { o with sends := o.sends + 1 } })
      | g => (g, refusedBy s g (match o.entry with
          | none => none
          | some id => s.radio.txq.find? (fun e => e.id = id)))
    | none =>
      match (forPeer s p).find? (fun e => ok e.cls (macLength n e.payload) ≠ .budget) with
      | some e =>
        match ok e.cls (macLength n e.payload) with
        | .send => (.send, sendNew s p chan (withMore s p e.control 1) e.payload (some e.id) true)
        | g => (g, refusedBy s g (some e))
      | none =>
        let t := if forPeer s p = [] then s else budgetHold s
        match ok 0 (macLength n []) with
        | .send => (.send, sendNew t p chan (withMore t p fallback 0) [] none (decide (fallback / 16 ≠ 5)))
        | g => (g, refusedBy t g none)

/-- Control bytes of POLL and ACK, secured; POLL asks for its answer (Table 17.5; log entry 27). -/
def pollControl : Nat := 0x6C
def ackControl : Nat := 0x54

/-- GroveLinkState of a stem. -/
def linkState (s : State) (v : Nat) : State := if isStem s then setObj s Obj.GroveLinkState v else s

/-- `StemCount`: connected stems. -/
def countStems (s : State) : State := setObj s Obj.StemCount ((s.radio.nbrs.filter (fun e => decide (e.1 ≠ 0) && e.2.conn.isSome)).length)

/-- Lose a connection with a cause (R582, R610, R616, R629): LINK_LOST with the short id; a crown marks the entry lost; the stem rejoins. -/
def loseLink (s : State) (p cause : Nat) : State :=
  match nbr s p with
  | none => s
  | some n =>
    let t := setNbr s p { n with conn := none, out := none }
    let short := if isStem t then obj t Obj.GroveShortId else p
    let u := sendFailed (raise (linkState (if isStem t then t else countStems t) 0) 0x5201 [short, cause]) p
    { u with radio := { u.radio with
        event := if u.radio.event = some p then none else u.radio.event
        await := if u.radio.event = some p then false else u.radio.await
        stems := match mfind u.radio.stems p with
          | none => u.radio.stems
          | some e => mset u.radio.stems p { e with state := 2 } } }

/-- End every connection with a cause. -/
def loseAll (s : State) (cause : Nat) : State :=
  (s.radio.nbrs.filter (fun e => e.2.conn.isSome)).foldl (fun t e => loseLink t e.1 cause) s

/-- Is the receiver taken by the listen rule (R594)? -/
def lbtListening (s : State) : Bool := s.radio.lbt.any (fun j => !j.waiting)

/-- Is an exchange in progress, or a frame on air (R608, R597)? A connection anchor is then skipped. -/
def radioBusy (s : State) : Bool := !s.radio.air.isEmpty || s.radio.event.isSome && !s.radio.dawn

/-- Is the radio idle for a duty below a connection anchor (R608)? -/
def radioIdle (s : State) : Bool :=
  decide (s.radio.air = []) && s.radio.event.isNone && !s.radio.wakeWait && !lbtListening s && s.radio.scan.isNone

/-- Queue Grove time for a stem whose `GroveTimeInterval` has passed (R627): its field is stamped as the frame is sent (R583). -/
def groveTimeDue (s : State) (p : Nat) : State :=
  match mfind s.radio.stems p with
  | none => s
  | some e =>
    let due : Bool := match e.timeSent with
      | none => true
      | some t => decide (t + obj s Obj.GroveTimeInterval * 32768 ≤ ticks s)
    if isCrown s && decide (obj s Obj.GroveTimeInterval ≠ 0) && due && s.rtc.valid && decide (s.radio.txq.length < 8) then
      let t := enqueueData s 2 p 4 (bytesOf 8 (t48 s))
      { t with radio := { t.radio with stems := mset t.radio.stems p { e with timeSent := some (ticks s) } } }
    else s

/-- Half width W of a stem's window, ns: (`RadioSca` + peer SCA) × Δt + 64 µs, capped at half the interval (R580). -/
def windowNs (s : State) (n : Nbr) (c : Conn) : Nat :=
  min ((radioSca s + n.sca) * (ticks s - n.lastTick) * 1000 / 32768 + 64000) (c.interval * 1000000000 / 512)

/-- The connection after its event counter moves on, with a map change taken at its instant (R576, R628, R629); where the counter wraps, anchor 0 moves on
with it. -/
def Conn.advance (c : Conn) : Conn :=
  let e := (c.event + 1) % 65536
  let d := { c with event := e, anchor0 := if e = 0 then c.anchor0 + (65536 * (c.interval * 128) : Nat) else c.anchor0 }
  match c.update with
  | some (at_, map, first) => if e = at_ then { d with map := map, first := first, update := none } else d
  | none => d

/-- Trimmed tick of a connection's next anchor (R576). -/
def Conn.nextTick (c : Conn) : Int := c.anchor0 + (c.event * (c.interval * 128) : Nat)

/-- Does a connection anchor, with a stem's window before it (R580), fall within the next ms milliseconds? A lower duty that would overlap it is skipped
(R608). -/
def anchorWithin (s : State) (ms : Nat) : Bool :=
  s.radio.nbrs.any (fun e => match e.2.conn with
    | none => false
    | some c =>
      let lead := if isStem s then windowNs s e.2 c * 32768 / 1000000000 else 0
      decide ((ticks s : Int) ≤ c.nextTick) && decide (c.nextTick - (lead : Nat) < (ticks s + ceilDiv (ms * 32768) 1000 : Nat)))

/-- The span a queued entry goes on: its own channel, or the compatibility mode's, whose figures are EN 13757-4's and not the manual's (log entry 28). -/
def entrySpan (s : State) (e : TxEntry) (chan : Nat) : Int × Int :=
  if e.peer = 256 then
    let m : Int := obj s Obj.CompatMode * 256 + obj s Obj.CompatNChannel
    (Config.freeResult 41 m, Config.freeResult 42 m)
  else channelSpan s chan

/-- Airtime of a queued entry that goes outside events, ms: a beacon or join frame (header, payload, MIC), or a compatibility frame (EN 13757-4 coding: free). -/
def entryMs (s : State) (e : TxEntry) : Nat :=
  if e.peer = 256 then (Config.freeResult 43 (obj s Obj.CompatMode * 1024 + e.payload.length)).toNat
  else airMs s (onAirLength (18 + e.payload.length))

/-- Frames of a dawn train for a glance interval (R585): ⌈(G + 2d) / d⌉ with d of the 18 bytes of a WAKE frame. -/
def trainLength (s : State) (glance : Nat) : Nat := ceilDiv (glance * bandRate s) (256 * 144) + 2

/-- Contents of a BEACON (Table 18.1). -/
def beaconPayload (s : State) : List Byte :=
  let free := (s.radio.stems.filter (fun e => !connected s e.1 && !e.2.lysef)).length
  let slots := ((List.range 255).filter (fun i => decide ((i + 1) * obj s Obj.SlotTime * 256 < obj s Obj.ConnInterval * 1000 - obj s Obj.SlotTime * 256)
    && !connected s (i + 1))).length
  bytesOf 8 (obj s Obj.DeviceIdentity) ++ (if s.rtc.valid then bytesOf 8 (syncTime s) else List.replicate 8 0xFF)
    ++ bytesOf 1 (if free = 0 then 0 else 1) ++ bytesOf 1 (radioSca s) ++ bytesOf 1 slots

/-- Send an entry outside an event: a beacon or join frame under `GroveNetworkKey`, whose counter the manual does not state (log entry 29), or a compatibility
frame. A beacon's time is that of its own sync word (R583). -/
def sendFree (s : State) (e : TxEntry) (chan : Nat) : State :=
  let span := entrySpan s e chan
  if e.peer = 256 then emit s e.control 256 e.payload span chan (entryMs s e) 127 0 (some e.id)
  else
    let (c, t) := draw s
    let grove := match t.radio.join with
      | some j => if isCrown t then ownGrove t else j.grove
      | none => ownGrove t
    let mac := secureMac (obj t Obj.GroveNetworkKey) (obj t Obj.DeviceIdentity) e.control grove 0 0 (c % 2 ^ 32) 0x80
      (if e.control = 0x14 then beaconPayload s else e.payload)
    emit t e.control 0 (airBytes mac) span chan (airMs t (onAirLength mac.length)) 127 0 (some e.id)

/-- Send a dawn train and its data frame (R585): charged whole before it begins; the data frame is then unacknowledged in an open event. -/
def sendTrain (s : State) (e : TxEntry) (chan : Nat) : State :=
  match nbr s e.peer with
  | none => s
  | some n =>
    let k := trainLength s n.glance
    let t := sendNew s e.peer chan e.control e.payload (some e.id) true
    match t.radio.air.getLast? with
    | none => t
    | some a =>
      let extra := k * airMs s (onAirLength 9)
      let i := (chargedEntry s (channelSpan s chan)).getD 0
      { setObj t Obj.TxAirtimeTotal ((obj t Obj.TxAirtimeTotal + extra) % 2 ^ 64) with
        radio := { t.radio with
          air := t.radio.air.dropLast ++ [{ a with train := k, airtime := a.airtime + extra }]
          buckets := mupd t.radio.buckets (i * 64 + t.radio.bucket) 0 (· + extra)
          dwell := t.radio.dwell ++ [(chan, ticks t, extra)]
          event := some e.peer, evChan := chan, dawn := false } }

/-- The channel an entry outside events starts on: its own, for a train the stem's glance channel (R626). -/
def freeChannel (s : State) (e : TxEntry) : Nat :=
  match e.chan with
  | some c => c
  | none => match nbr s e.peer with
    | some n => match n.conn with
      | some c => c.channel c.event
      | none => obj s Obj.InstallerChannel
    | none => obj s Obj.InstallerChannel

/-- Airtime charged for an entry outside events, ms: with the whole train before it where it goes by dawn train (R585). -/
def freeMs (s : State) (e : TxEntry) : Nat :=
  if e.train then
    match nbr s e.peer with
    | some n => trainLength s n.glance * airMs s (onAirLength 9) + airMs s (onAirLength (macLength n e.payload))
    | none => 0
  else entryMs s e

/-- Power wanted for an entry outside events: the peer's for a train, else the largest R566 allows. -/
def freePower (s : State) (e : TxEntry) : Int :=
  match nbr s e.peer with
  | some n => if e.train then n.power else 127
  | none => 127

/-- A join frame, which answers 1.0 ms after its beacon or request (R620, R621). -/
def TxEntry.joins (e : TxEntry) : Bool := decide (e.control / 16 = 2) || decide (e.control / 16 = 3)

/-- A beacon. -/
def TxEntry.beacon (e : TxEntry) : Bool := decide (e.control / 16 = 1) && decide (e.peer = 0)

/-- The accountant's answer for an entry outside events; a join frame is not listened for (log entry 31). -/
def freeGate (s : State) (e : TxEntry) (chan : Nat) (clear : Bool) : Gate :=
  gate s e.cls (entrySpan s e chan) chan (freeMs s e) (freePower s e) (clear || e.joins)

/-- Must an entry outside events wait for the radio (R608, R30)? A compatibility frame waits for every Grove link duty. -/
def radioWaits (s : State) (e : TxEntry) : Bool :=
  !mayTransmit s || s.radio.air.any (fun a => decide (a.entry = some e.id)) || s.radio.event.isSome || s.radio.lbt.isSome ||
    !e.joins && (!radioIdle s || decide (e.peer = 256) && (s.radio.glancing || anchorWithin s (freeMs s e)))

/-- Try an entry that goes outside events on a channel; a beacon that a connection anchor would overlap is skipped (R608; log entry
101). -/
def tryFree (s : State) (e : TxEntry) (chan tries : Nat) (clear : Bool) : State :=
  if radioWaits s e then s
  else if e.beacon && anchorWithin s (freeMs s e) then dropEntry s e.id
  else
    match freeGate s e chan clear with
    | .send => if e.train then sendTrain s e chan else sendFree s e chan
    | .listen => { s with radio := { s.radio with lbt := some ⟨none, e.id, chan, tries, false⟩ } }
    | g => refusedBy s g (some e)

/-- Does the accountant hold a frame (R591, R592, R77)? -/
def Gate.holds (g : Gate) : Bool :=
  match g with
  | .duty => true
  | .dwell => true
  | .budget => true
  | _ => false

/-- Try entries in order; a frame that is held lets only frames of other band entries pass (R596). -/
def tryEach (l : List TxEntry) (held : List (Option Nat)) (s : State) : State :=
  match l with
  | [] => s
  | e :: t =>
    let chan := freeChannel s e
    let band := chargedEntry s (entrySpan s e chan)
    if held.contains band then tryEach t held s
    else tryEach t (if (freeGate s e chan false).holds then band :: held else held) (tryFree s e chan 0 false)

/-- Send what waits outside events and the accountant lets go: beacons and join frames in class order (R596), then compatibility frames (R30). -/
def pump (s : State) : State :=
  let byClass : List TxEntry → List TxEntry := fun l => [1, 2, 3, 4].flatMap (fun c => l.filter (fun e => decide (e.cls = c)))
  let grove := s.radio.txq.filter (fun e => !e.train && e.chan.isSome && decide (e.peer ≠ 256))
  let compat := s.radio.txq.filter (fun e => decide (e.peer = 256))
  tryEach (byClass grove ++ byClass compat) [] s

/-- Would every queued frame pass the airtime limit, the budget? Clears the holds that have ended (R591, R77). -/
def recheck (s : State) : State :=
  let g : TxEntry → Gate := fun e => freeGate s e (freeChannel s e) true
  let t := if s.radio.txq.any (fun e => g e = .duty) then s else objBit s Obj.RadioStatus 0 false
  if t.radio.txq.any (fun e => g e = .budget) then t else objBit t Obj.RadioStatus 1 false

/-- The radio takes up an event: whatever lower duty it meets ends, and beacons not yet sent are skipped (R608). -/
def openEvent (s : State) (peer chan : Nat) : State :=
  let t := startRadio s
  { t with radio := { t.radio with
    event := some peer, evChan := chan, await := false, more := false, dawn := false, glancing := false, wakeWait := false, lbt := none
    txq := t.radio.txq.filter (fun e => !e.beacon) } }

/-- The event ends, and frames that waited for it go (R30). -/
def closeEvent (s : State) : State := pump { s with radio := { s.radio with event := none, await := false, more := false, dawn := false } }

/-- CONNECTION_EVENT: at an anchor the crown sends DATA or POLL, a stem opens its window (R576 to R580); an exchange in progress makes the radio skip it, and
the event counter goes on (R608, R614). -/
def execConnectionEvent (peer : Nat) (s : State) : Res :=
  when (isFull s && connected s peer) s (fun s =>
    match nbr s peer with
    | none => s
    | some n => match n.conn with
      | none => s
      | some c =>
        let t := setNbr s peer { n with conn := some c.advance }
        if !radioUp s || radioBusy s then t
        else
          let u := openEvent t peer (c.channel c.event)
          if isCrown s then
            if !mayTransmit s then closeEvent u
            else match sendInEvent (groveTimeDue u peer) peer (c.channel c.event) pollControl false false with
              | (.send, v) => v
              | (.listen, v) => { v with radio := { v.radio with lbt := some ⟨some peer, 0, c.channel c.event, 0, false⟩ } }
              | (_, v) => closeEvent v
          else { u with radio := { u.radio with openNs := windowNs s n c } })

/-- CONNECTION_EVENT_END: an unanswered frame raises P by 6 dB and is dropped at `RetryLimit` sends; the event ends (R578, R579, R595). -/
def execConnectionEventEnd (peer : Nat) (s : State) : Res :=
  when (decide (s.radio.event = some peer)) s (fun s =>
    let t := if s.radio.await then
        match nbr s peer with
        | none => s
        | some n => exhaust (setNbr s peer { n with power := powerIn s ((chargedEntry s (channelSpan s (s.radio.evChan))).getD 0) (n.power + 6) }) peer
      else s
    closeEvent t)

/-- END_OF_TRANSMIT: the last CRC bit of the frame on air is sent (R564, R47); the queue entry that went with it is done, and the next frame goes. -/
def execEndOfTransmit (s : State) : Res :=
  when (decide (s.radio.air ≠ [])) s (fun s =>
    let rest := s.radio.air.drop 1
    let compat : Bool := (s.radio.air.head?.map (fun a => decide (a.peer = 256))).getD false && decide (obj s Obj.CompatBidirectional = 1)
    let beacon := (s.radio.air.head?.bind (fun a => if a.control / 16 = 1 then some a.channel else none))
    let t := { s with radio := { s.radio with
      air := rest, pllFails := 0, compatWindow := s.radio.compatWindow || compat, beaconOpen := if beacon.isSome then beacon else s.radio.beaconOpen } }
    let u := match s.radio.air.head?.bind (·.entry) with
      | some id => dropEntry t id
      | none => t
    pump (if rest = [] then { u with pads := { u.pads with rfsw := false, paen := false } } else u))

/-- Have S intervals passed since the peer's last authenticated frame (R582)? -/
def linkExpired (s : State) (p : Nat) : Bool :=
  match nbr s p with
  | none => false
  | some n => match n.conn with
    | none => false
    | some c => decide (n.heard + c.s * c.interval * 128 ≤ ticks s)

/-- LINK_LOST: no authenticated frame for S intervals (R582). -/
def execLinkLost (peer : Nat) (s : State) : Res := when (isFull s && linkExpired s peer) s (fun s => pump (loseLink s peer 1))

/-- LBT_LISTEN_END (R594): quiet, the frame goes; busy, an anchor frame's event is skipped, another frame tries the next channel, up to 3, then waits. -/
def nextTry (s : State) (e : TxEntry) (chan : Nat) : Nat :=
  if e.peer = 256 then chan
  else if e.chan.isSome then
    let l := [obj s (Obj.AdvChannel 1), obj s (Obj.AdvChannel 2), obj s (Obj.AdvChannel 3)]
    match l.idxOf? chan with
    | some i => l[(i + 1) % 3]?.getD chan
    | none => chan
  else
    let set := ((List.range 64).filter (bitOf (obj s Obj.ChannelMap))).map (· + obj s Obj.MapFirstChannel)
    match set.find? (fun c => decide (chan < c)) with
    | some c => c
    | none => set.headD chan

/-- LBT_LISTEN_END. -/
def execLbtListenEnd (rssi : Int) (s : State) : Res :=
  match s.radio.lbt with
  | none => ok s
  | some j =>
    if j.waiting then ok s
    else
      let t := { s with radio := { s.radio with lbt := none } }
      let busy : Bool := decide (objI 1 s Obj.LbtThreshold ≤ rssi)
      match j.anchor with
      | some p =>
        if busy || !mayTransmit t then ok (closeEvent t)
        else match sendInEvent t p j.channel pollControl false true with
          | (.send, v) => ok v
          | (_, v) => ok (closeEvent v)
      | none =>
        match t.radio.txq.find? (fun e => e.id = j.entry) with
        | none => ok (pump t)
        | some e =>
          if !busy then ok (pump (tryFree t e j.channel j.tries true))
          else if j.tries + 1 < 3 then ok (pump (tryFree t e (nextTry t e j.channel) (j.tries + 1) false))
          else ok { t with radio := { t.radio with lbt := some { j with waiting := true } } }

/-- LBT_BACKOFF_END: the random wait ends and the frame starts again (R594). -/
def execLbtBackoffEnd (s : State) : Res :=
  match s.radio.lbt with
  | none => ok s
  | some j =>
    let t := { s with radio := { s.radio with lbt := none } }
    if !j.waiting then ok s
    else match t.radio.txq.find? (fun e => e.id = j.entry) with
      | none => ok (pump t)
      | some e => ok (pump (tryFree t e (freeChannel t e) 0 false))

/-- A frame of a slot whose synthesizer did not lock is not sent (R613): it is not charged, and counts as no send of an event's frame (R579). -/
def unsend (s : State) (a : OnAir) : State :=
  let t := setObj s Obj.TxAirtimeTotal ((obj s Obj.TxAirtimeTotal + 2 ^ 64 - a.airtime) % 2 ^ 64)
  let u := { t with radio := { t.radio with
    buckets := mupd t.radio.buckets (a.band * 64 + t.radio.bucket) 0 (· - a.airtime)
    dwell := t.radio.dwell.filter (fun d => decide (d.1 ≠ a.channel) || decide (d.2.1 ≠ a.start)) } }
  match nbr u a.peer with
  | none => u
  | some n => if a.entry.isSome then u else setNbr u a.peer { n with out := n.out.map (fun o => { o with sends := o.sends - 1 }) }

/-- PLL_LOCK_FAIL: nothing is sent or received in the slot; the third in a row is logged and rests the radio (R613). -/
def execPllLockFail (s : State) : Res :=
  when (radioUp s) s (fun s =>
    let n := s.radio.pllFails + 1
    let r := s.radio.air.foldl unsend s
    let t := { r with
      radio := { r.radio with pllFails := if 3 ≤ n then 0 else n, air := [], event := none, await := false, dawn := false, lbt := none, glancing := false,
                              wakeWait := false }
      pads := { r.pads with rfsw := false, paen := false } }
    if 3 ≤ n then raise (objBit t Obj.RadioStatus 4 true) 0x5208 else t)

/-- PLL_REST_END: the 60 s rest ends (R613). -/
def execPllRestEnd (s : State) : Res := when (getBit s Obj.RadioStatus 4) s (fun s => pump (objBit s Obj.RadioStatus 4 false))

/-- BUCKET_CHANGE: the next 60 s bucket begins, and frames held for duty are checked again (R591). -/
def execBucketChange (s : State) : Res :=
  when (coreUp s) s (fun s =>
    let b := (s.radio.bucket + 1) % 60
    let m := [1, 2, 3, 4, 5, 6, 7, 8].foldl (fun m i => mdel m (i * 64 + b)) s.radio.buckets
    pump (recheck { s with radio := { s.radio with bucket := b, buckets := m } }))

/-- Has an entry waited for its time to live (R597)? A frame on its way is completed. -/
def aged (s : State) (e : TxEntry) : Bool :=
  decide (e.born + obj s (Obj.TxClassTtl e.cls) * 32768 ≤ ticks s) && !s.radio.air.any (fun a => decide (a.entry = some e.id))

/-- FRAME_AGED: queued frames at their time to live are removed (R597), and holds that they caused end. -/
def execFrameAged (s : State) : Res :=
  when (coreUp s) s (fun s =>
    recheck ((s.radio.txq.filter (aged s)).foldl (fun t e =>
      let u := raiseOnce (bump (lostEntry (dropEntry t e.id) e) (Obj.TxDropCount 2)) (0x5205 * 65536) 3600 0x5205 []
      match nbr u e.peer with
      | none => u
      | some n => match n.out with
        | none => u
        | some o => if o.entry = some e.id then setNbr u e.peer { n with out := none } else u) s))

/-- PERIODIC_TELEGRAM: a class 3 telegram of the latched registers (R570); a stem's goes to its crown (log entry 11). -/
def execPeriodicTelegram (s : State) : Res :=
  when (isFull s && isStem s && decide (obj s Obj.TelegramInterval ≠ 0)) s (fun s => enqueueTx s 3 0 dataControl (telegramBytes s))

/-- GLANCE (R584, R608): a glance without a WAKE frame before the next one counts a false wake (log entry 30). -/
def execGlance (rssi : Int) (s : State) : Res :=
  when (radioUp s && radioIdle s && !anchorWithin s 1) s (fun s =>
    let t := if s.radio.glancing then
        let u := bump s Obj.FalseWakeCount
        let l := (u.radio.falseWakes ++ [ticks u]).filter (fun k => decide (ticks u < k + 3600 * 32768))
        let v := { u with radio := { u.radio with falseWakes := l, glancing := false } }
        if 16 ≤ l.length then raiseOnce v (0x520A * 65536) 3600 0x520A [] else v
      else s
    let hot := decide (objI 1 t Obj.GlanceThreshold ≤ rssi)
    let u := startRadio t
    let v := { u with radio := { u.radio with glancing := hot, pllFails := 0 } }
    if hot then v else pump v)

/-- May transport windows act on WAKE frames (R589)? -/
def installAllowed (s : State) : Bool :=
  match chargedEntry s (channelSpan s (obj s Obj.InstallerChannel)) with
  | some i => !entryDwells (obj s (Obj.BandEntry i))
  | none => true

/-- TRANSPORT_WINDOW: a receive window on the installer channel (R67, R587). -/
def execTransportWindow (s : State) : Res :=
  when (decide (s.pw.mode = .transport)) s (fun s => let t := startRadio s; { t with radio := { t.radio with window := true, installReady := false } })

/-- WAKE: a WAKE frame for this device (R586; in a transport window R587). -/
def execWake (groveId : BitVec 16) (target : BitVec 32) (_countdown : BitVec 16) (s : State) : Res :=
  let own : Bool := decide (groveId.toNat = 0xFFFF) && decide (target.toNat = obj s Obj.DeviceIdentity % 2 ^ 32)
  if s.pw.mode = .transport then
    when (s.radio.window && own && installAllowed s) s (fun s => { s with radio := { s.radio with window := false, installReady := true } })
  else
    let mine : Bool := if ownGrove s = 0xFFFF then own else decide (groveId.toNat = ownGrove s) && decide (target.toNat = ownShort s)
    when (radioUp s && s.radio.glancing && mine) s (fun s => { s with radio := { s.radio with glancing := false, wakeWait := true } })

/-- The channel a device glances on (R626): a connected stem's next event's, else `InstallerChannel`. -/
def glanceChannel (s : State) : Nat :=
  match nbr s 0 with
  | some n => match n.conn with
    | some c => c.channel c.event
    | none => obj s Obj.InstallerChannel
  | none => obj s Obj.InstallerChannel

/-- DAWN_WAKE_RECEIVE: the receiver reopens for the data frame after the train (R586). -/
def execDawnWakeReceive (s : State) : Res :=
  when (radioUp s && s.radio.wakeWait && decide (s.radio.air = []) && s.radio.event.isNone) s (fun s =>
    let t := openEvent s 0 (glanceChannel s)
    { t with radio := { t.radio with dawn := true } })

/-- DAWN_TRAIN: send the first frame queued for a dawn train to the peer (R585, R626). -/
def execDawnTrain (peer : Nat) (s : State) : Res :=
  when (radioUp s && radioIdle s) s (fun s =>
    match s.radio.txq.find? (fun e => e.train && decide (e.peer = peer)) with
    | none => s
    | some e => tryFree s e (freeChannel s e) 0 false)

/-- BEACON_INTERVAL: a crown sends one BEACON on each `AdvChannel` in order (R619); skipped behind a higher duty (R608). -/
def execBeaconInterval (s : State) : Res :=
  when (radioUp s && isCrown s && decide (obj s Obj.BeaconInterval ≠ 0) && radioIdle s) s (fun s =>
    let t := { s with radio := { s.radio with glancing := false } }
    pump ([1, 2, 3].foldl (fun a i => enqueueEntry a 4 0 0x14 (beaconPayload s) (some (obj s (Obj.AdvChannel i))) false) t))

/-- Charge of a scan window at 6.0 mA, nAh rounded up (R634): (`BeaconInterval` s + 20 ms) × 6.0 mA. -/
def scanCharge (s : State) : Nat := ceilDiv ((obj s Obj.BeaconInterval * 1000 + 20) * 6 * 10) 36

/-- SCAN_START: a stem without a connection scans the next advertising channel, once the backoff has passed and when the budget covers it (R634). -/
def execScanStart (s : State) : Res :=
  when (radioUp s && isStem s && !connected s 0 && radioIdle s && decide (s.radio.scanAfter ≤ ticks s)
      && decide ((scanCharge s : Int) ≤ objI 4 s Obj.BudgetBucket)) s (fun s =>
    let t := startRadio s
    linkState { t with radio := { t.radio with scan := some (obj s (Obj.AdvChannel (s.radio.scanIx % 3 + 1))), scanIx := (s.radio.scanIx + 1) % 3 } } 1)

/-- SCAN_END: no join in the window, so the next scan waits for the backoff, which then doubles up to `RejoinBackoffMax` (R634). -/
def execScanEnd (s : State) : Res :=
  when s.radio.scan.isSome s (fun s =>
    let wait := min s.radio.backoff (obj s Obj.RejoinBackoffMax)
    linkState { s with radio := { s.radio with
      scan := none, join := none, scanAfter := ticks s + wait * 32768, backoff := min (2 * s.radio.backoff) (obj s Obj.RejoinBackoffMax) } } 0)

/-- GROVE_SEND_TIMEOUT: no response within 2 intervals (Table 18.2). -/
def execGroveSendTimeout (s : State) : Res :=
  match s.radio.send with
  | none => ok s
  | some p => ok (sendFailed s p)

/-- MAP_UPDATED: every instant has passed, so the new map is written without ending a connection (R628). -/
def execMapUpdated (s : State) : Res :=
  match s.radio.mapChange with
  | none => ok s
  | some (map, first) =>
    when (isCrown s && s.radio.nbrs.all (fun e => match e.2.conn with
        | some c => c.update.isNone
        | none => true)) s (fun s =>
      let t := (commitObjs { s with radio := { s.radio with mapChange := none } } [(Obj.ChannelMap, map), (Obj.MapFirstChannel, first)]).2
      raise (objBit t Obj.RadioStatus 2 (hopCountLow t)) 0x5305)

/-- The checks of a `RadioCommit` (R563, R593, R601, R625) on the values it would give. The glance channel is a connected stem's next event's only where the
commit ends no connection (R626, R610). -/
def radioOk (s : State) : Bool :=
  let v := objNext s
  let base := if v Obj.RadioBand = obj s Obj.RadioBand then [] else bandDefaults (v Obj.RadioBand)
  let w : Nat → Nat := fun k => match mfind s.shadow k with
    | some x => x
    | none => (mfind base k).getD (v k)
  let t := setMany s ([Obj.InstallerChannel, Obj.RadioBand, Obj.BandEntry 1, Obj.BandEntry 2, Obj.BandEntry 3, Obj.BandEntry 4, Obj.BandEntry 5, Obj.BandEntry 6, Obj.BandEntry 7,
    Obj.BandEntry 8].map (fun k => (k, v k)))
  let n := bandChannels (w Obj.RadioBand)
  let same := [Obj.RadioBand, Obj.ChannelMap, Obj.MapFirstChannel, Obj.GroveRole, Obj.GroveId].all (fun k => decide (w k = obj s k))
  let glance : Bool := match chargedEntry t (channelSpan t (if same then glanceChannel t else w Obj.InstallerChannel)) with
    | none => true
    | some i =>
      let e := obj t (Obj.BandEntry i)
      !entryDwells e || decide (w Obj.GlanceInterval * 1000 * bandRate t + 2 * 144 * 256 * 1000 ≤ entryDwell e * 256 * bandRate t)
  let mode := w Obj.CompatMode
  let compat : Bool := decide (mode = 0) || decide (mode = 4) && decide (w Obj.RadioBand = 0)
    || decide (1 ≤ mode) && decide (mode ≤ 3) && decide (w Obj.RadioBand = 2)
  [Obj.AdvChannel 1, Obj.AdvChannel 2, Obj.AdvChannel 3, Obj.InstallerChannel].all (fun k => decide (w k < n))
    && mapFits (w Obj.RadioBand) (w Obj.ChannelMap) (w Obj.MapFirstChannel) && glance && compat
    && (decide (w Obj.CompatBidirectional = 0) || decide (mode = 2) || decide (mode = 3))
    && decide (obj s Obj.EventMaxTime ≤ w Obj.SlotTime)

/-- RADIO_COMMIT_APPLY: at the first instant with no frame on air and no event open (R610); band defaults (R562), connections end on band, map, role or
grove changes (R610, R639), a crown's epoch is fixed (R624). -/
def execRadioCommitApply (s : State) : Res :=
  when (pendingOf s .radio && decide (s.radio.air = []) && s.radio.event.isNone) s (fun s =>
    let mine := s.pend.filter (fun e => blockOf e.1 == some .radio)
    let band := (mfind mine Obj.RadioBand).getD (obj s Obj.RadioBand)
    let extra := if band = obj s Obj.RadioBand then [] else (bandDefaults band).filter (fun e => (mfind mine e.1).isNone)
    let p := extra.foldl (fun m e => mset m e.1 e.2) s.pend
    let changed := [Obj.RadioBand, Obj.ChannelMap, Obj.MapFirstChannel, Obj.GroveRole, Obj.GroveId].any (fun k => decide ((mfind p k).getD (obj s k) ≠ obj s k))
    let u := applyPend { (if changed then loseAll s 2 else s) with pend := p } .radio
    let v := if obj s Obj.GroveRole ≠ 2 ∧ obj u Obj.GroveRole = 2 then { u with radio := { u.radio with epoch := ticks u } } else u
    let w := if obj s Obj.GroveRole ≠ obj v Obj.GroveRole then { v with radio := { v.radio with nbrs := [], grove := 0xFFFF, scan := none, join := none } } else v
    objBit w Obj.RadioStatus 2 (hopCountLow w))

/-- Data records of a compatibility telegram (Table 15, R603): `Calendar` at the latch as the 4-byte date-time of EN 13757-3 (its coding is that standard's:
log entry 28), then the registers of `TelegramRegisters`, least significant byte first as EN 13757-3 sends them. -/
def compatRecords (s : State) : List Byte :=
  let regs := regsOf s (obj s Obj.TelegramRegisters)
  let vif : Nat → List Byte := fun n =>
    if n = 1 then [0x10] else if n = 2 then [0x90, 0x3C] else if n = 4 then [0x00] else [0xFF] ++ bytesOf 1 n
  [0x04, 0x6D] ++ (bytesOf 4 (ofInt 4 (Config.freeResult 44 s.tally.latchTime))).reverse
    ++ regs.flatMap (fun e => [0x07] ++ vif e.1 ++ (bytesOf 8 e.2).reverse)

/-- Status byte of R602. -/
def compatStatus (s : State) : Nat :=
  let e := obj s Obj.ErrorFlags
  let named := putBit (putBit (putBit (putBit e 0 false) 4 false) 5 false) 7 false
  (if e = 0 then 0 else 2) + (if bitOf e 7 then 4 else 0) + (if bitOf e 0 || bitOf e 4 || bitOf e 5 then 8 else 0) + (if named = 0 then 0 else 16)
    + obj s Obj.StoreStage % 4 * 32

/-- COMPAT_TELEGRAM: a class 3 SND_NR with an incremented access number (R602, R604), before EN 13757-7 encryption and EN 13757-4 coding (log entry 28). -/
def execCompatTelegram (s : State) : Res :=
  when (isFull s && decide (obj s Obj.CompatMode ≠ 0)) s (fun s =>
    let acc := (obj s Obj.CompatAccessNumber + 1) % 256
    let t := setObj s Obj.CompatAccessNumber acc
    let c := t.radio.compatCounter + 1
    let u := if obj t Obj.CompatSecurity = 7 then
        { t with radio := { t.radio with compatCounter := c, compatSaved := if c % 256 = 0 ∧ obj t Obj.StoreStage ≠ 2 then c else t.radio.compatSaved } }
      else t
    let body := compatHeader u 0x44 ++ [0x7A] ++ bytesOf 1 acc ++ bytesOf 1 (compatStatus u) ++ compatRecords u
    pump (enqueueTx u 3 256 0x44 body))

end Sys2Proof.Machine
end

