-- ==== Sys2Proof/Machine/Grove.lean ====
section
/-! DEFINITION. Running a grove: the host's actions on the crown table, map changes, bridging and mailboxes (chapter 18). Each answers a status of Table 05.5,
a transaction number and the next state. -/

namespace Sys2Proof.Machine

/-- A status, a transaction number (0: nothing journalled, R161) and the state. -/
abbrev Acted := Nat × Nat × State

/-- Refuse with a status, changing nothing. -/
def refuse (st : Nat) (s : State) : Acted := (st, 0, s)

/-- Done, nothing journalled. -/
def done (s : State) : Acted := (stOk, 0, s)

/-- Done, with the transaction a journal operation answers. -/
def doneTxn (x : Nat × State) : Acted := (stOk, x.1, x.2)

/-- The entry that holds an identity. -/
def entryHolding (s : State) (identity : Nat) : Option Nat := (s.radio.stems.find? (fun e => decide (e.2.identity = identity))).map (·.1)

/-- Lowest free crown table entry (R618, R527). -/
def freeEntry (s : State) : Option Nat := ((List.range 255).map (· + 1)).find? (fun n => (mfind s.radio.stems n).isNone)

/-- Store a crown table entry. -/
def setStem (s : State) (n : Nat) (e : Stem) : State := { s with radio := { s.radio with stems := mset s.radio.stems n e } }

/-- `StemAdmit` (R617, R618, R637): an identity that holds an entry keeps it when short id 0 or its own is named (log entry 32). -/
def admitStem (s : State) (identity key short : Nat) : Acted :=
  let own := entryHolding s identity
  let put : Nat → Acted := fun n =>
    let old := match own with
      | some m => if m = n then mfind s.radio.stems m else none
      | none => none
    let e : Stem := match old with
      | some x => { x with joinKey := key }
      | none => ⟨identity, key, false, 0, 0, [], none⟩
    let t := match own with
      | some m => if m = n then s else { s with radio := { s.radio with stems := mdel s.radio.stems m } }
      | none => s
    doneTxn (journal (setStem t n e) [(Obj.StemAdmit, (identity * 2 ^ 128 + key) * 256 + n)])
  if short = 0 then
    match own with
    | some m => put m
    | none => match freeEntry s with
      | some n => put n
      | none => refuse stFull s
  else match mfind s.radio.stems short with
    | some e => if e.identity = identity then put short else refuse stRange s
    | none => put short

/-- `StemRemove` (R640, R638): the entry that holds the identity is cleared, its events stop. -/
def removeStem (s : State) (identity : Nat) : Acted :=
  match entryHolding s identity with
  | none => done s
  | some n =>
    let t := sendFailed { s with radio := { s.radio with
      stems := mdel s.radio.stems n, nbrs := mdel s.radio.nbrs n, event := if s.radio.event = some n then none else s.radio.event } } n
    doneTxn (journal (countStems t) [(Obj.StemRemove, identity)])

/-- The bytes of an access request frame (Table 05.3): byte 0, tag, index, sub-index, data. -/
def requestBytes (byte0 tag key : Nat) (data : List Byte) : List Byte :=
  let b := bytesOf 1 byte0 ++ bytesOf 1 tag ++ bytesOf 2 (key / 256) ++ bytesOf 1 (key % 256) ++ bytesOf 1 data.length ++ data
  b ++ bytesOf 2 (crc16 b)

/-- The bytes of a response (Table 05.3). -/
def respBytes (r : Resp) : List Byte :=
  let b := bytesOf 1 r.status ++ bytesOf 1 r.tag ++ bytesOf 2 r.index ++ bytesOf 1 r.sub ++ bytesOf 1 r.data.length ++ r.data
  b ++ bytesOf 2 (crc16 b)

/-- Queue `ConnUpdate` to one connected stem, its instant 8 events after its next event (R628). -/
def updateStem (map first : Nat) (s : State) (p : Nat) : State :=
  match nbr s p with
  | none => s
  | some n => match n.conn with
    | none => s
    | some c =>
      let instant := (c.event + 8) % 65536
      let t := setNbr s p { n with conn := some { c with update := some (instant, map, first) } }
      enqueueData t 2 p 1 (requestBytes 0x70 0 Obj.ConnUpdate (bytesOf 8 map ++ bytesOf 1 first ++ bytesOf 2 instant))

/-- `GroveMapUpdate` (R628): checked under R563, then sent to every connected stem. -/
def mapUpdate (s : State) (map first : Nat) : Acted :=
  if !mapFits (obj s Obj.RadioBand) map first then refuse stRange s
  else if !isCrown s then done s
  else done ((s.radio.nbrs.map (·.1)).foldl (updateStem map first) { s with radio := { s.radio with mapChange := some (map, first) } })

/-- `ConnUpdate` (R629): only over the Grove link from the stem's own crown; an instant up to 32 768 events behind loses the link with cause 4. -/
def connUpdated (s : State) (r : Route) (map first instant : Nat) : Acted :=
  if !(isStem s && decide (r = .grove 0)) then refuse stDenied s
  else match nbr s 0 with
    | none => refuse stDenied s
    | some n => match n.conn with
      | none => refuse stDenied s
      | some c =>
        let behind := (c.event + 65536 - instant) % 65536
        if 1 ≤ behind ∧ behind ≤ 32768 then done (pump (loseLink s 0 4))
        else
          let c' := if behind = 0 then { c with map := map, first := first, update := none } else { c with update := some (instant, map, first) }
          done (setNbr s 0 { n with conn := some c' })

/-- `GroveSend` (R631, Table 18.2): byte 0 the short id, byte 1 flags, then the access request frame whose length byte is byte 7. -/
def groveSendFrame (s : State) (d : List Byte) : Acted :=
  let short := (d.headD 0).toNat
  let len := ((d[7]?).getD 0).toNat
  if 230 < len then refuse stRange s
  else if s.radio.send.isSome then refuse stBusy s
  else if !isCrown s then done (groveResult s 4 short [])
  else if !connected s short then done (groveResult s 3 short [])
  else
    let body := (d.drop 2).take (8 + len)
    let train : Bool := ((d[1]?).getD 0).getLsbD 0
    let t := groveResult { s with radio := { s.radio with send := some short } } 1 short []
    done (if !train then enqueueData t 2 short 1 body
      else if body.length ≤ 231 then enqueueEntry t 2 short dataControl ([1] ++ body) none true
      else enqueueTx (enqueueEntry t 2 short dataControl ([65] ++ body.take 231) none true) 2 short dataControl ([129] ++ body.drop 231))

/-- `MailboxOut` (R633): byte 0 the short id, byte 1 k, 1 to 230, then k bytes. -/
def mailOut (s : State) (d : List Byte) : Acted :=
  let k := ((d[1]?).getD 0).toNat
  if k = 0 ∨ 230 < k then refuse stRange s
  else done (enqueueData s 2 (d.headD 0).toNat 5 ((d.drop 2).take k))

/-- IrqStatus bit [6] while the inbox is not empty (R632). -/
def inboxIrq (s : State) : State := objBit s Obj.IrqStatus 6 (decide (s.radio.inbox ≠ []))

/-- `MailboxPop` (R632). -/
def mailPop (s : State) : Acted := done (inboxIrq { s with radio := { s.radio with inbox := s.radio.inbox.drop 1 } })

/-- `StemEntry` of an entry (Table 18.3). -/
def stemEntryBytes (s : State) (n : Nat) : List Byte :=
  match mfind s.radio.stems n with
  | none => List.replicate 16 0
  | some e =>
    let margin : Nat := match nbr s n with
      | some x => match x.margin with
        | some m => ofInt 1 m
        | none => 0x80
      | none => 0x80
    bytesOf 8 e.identity ++ bytesOf 1 (if e.lysef then 2 else 1) ++ bytesOf 1 e.state ++ bytesOf 1 margin ++ bytesOf 1 0 ++ bytesOf 4 e.contact

/-- `StemSnapshot` of an entry: zeros while it holds none. -/
def stemSnapshotBytes (s : State) (n : Nat) : List Byte :=
  match mfind s.radio.stems n with
  | none => List.replicate 90 0
  | some e => padTo 90 0 e.snapshot

/-- `GroveNeighbour` 01: a stem's crown: identity, short id, SCA, margin, state, uptime of last contact; 02 to 04, the peers of R605, carry no identity and
read zeros (log entry 33). -/
def neighbourBytes (s : State) (sub : Nat) : List Byte :=
  if sub = 1 ∧ isStem s then
    match nbr s 0 with
    | none => List.replicate 16 0
    | some n =>
      let margin : Nat := match n.margin with
        | some m => ofInt 1 m
        | none => 0x80
      bytesOf 8 n.identity ++ bytesOf 1 0 ++ bytesOf 1 n.sca ++ bytesOf 1 margin ++ bytesOf 1 (if n.conn.isSome then 1 else 2) ++ bytesOf 4 n.contact
  else List.replicate 16 0

end Sys2Proof.Machine
end

