-- ==== Sys2Proof/Machine/Store.lean ====
section
/-! DEFINITION. The store beneath the image (chapter 06): unit headers, the journal writer, checkpoints, erases, retirement, replay. -/

namespace Sys2Proof.Machine

/-- Region code of a logical unit (Tables 06.2, 06.3). -/
def regionCode (l : Nat) : Nat :=
  if l < 4 then 0x01 else if l < 8 then 0x02 else if l < 40 then 0x03 else if l < 56 then 0x04
  else if l < 64 then 0x05 else if l < 80 then 0x06 else if l < 88 then 0x07 else 0x08

/-- First logical unit of the region of a logical unit. -/
def regionFirst (l : Nat) : Nat :=
  if l < 4 then 0 else if l < 8 then 4 else if l < 40 then 8 else if l < 56 then 40
  else if l < 64 then 56 else if l < 80 then 64 else if l < 88 then 80 else 88

/-- STATE byte of a unit (Table 06.3). -/
def stateByte (u : UState) : Nat :=
  match u with
  | .free => 0xFF
  | .opened => 0x7F
  | .full => 0x3F
  | .obsolete => 0x1F
  | .retired => 0x0F

/-- All 64 bits of a word. -/
def ones : Nat := 2 ^ 64 - 1

/-- A header word of a unit as the writer stamps it (Table 06.3): ERASED after each erase, ROLE when the unit opens (log entry 81), STATE; three copies each,
then all ones. -/
def headerWord (s : State) (u w : Nat) : Nat :=
  let x := unit s u
  if w < 3 then 0x5E7A * 2 ^ 48 + u * 2 ^ 32 + x.count % 2 ^ 32
  else if w < 6 then match x.logical with
    | none => ones
    | some l => if x.st = .free then ones else regionCode l * 2 ^ 56 + (l - regionFirst l) * 2 ^ 48 + 0xFFFF * 2 ^ 32 + x.generation % 2 ^ 32
  else if w < 9 then stateByte x.st * 2 ^ 56 + (2 ^ 56 - 1)
  else ones

/-- A header word as it stands in flash: a raw program has cleared bits of it (R189). -/
def stampCopy (s : State) (u w : Nat) : Nat := Nat.land (mget s.flash.raw (u * 512 + w) ones) (headerWord s u w)

/-- Bit by bit majority of three copies (R190). -/
def majority (a b c : Nat) : Nat := Nat.lor (Nat.lor (Nat.land a b) (Nat.land a c)) (Nat.land b c)

/-- A stamp as read: 0 ERASED, 1 ROLE, 2 STATE (R190). -/
def readStamp (s : State) (u i : Nat) : Nat := majority (stampCopy s u (3 * i)) (stampCopy s u (3 * i + 1)) (stampCopy s u (3 * i + 2))

/-- Does a stamp of a unit fail majority: its copies differ (R190)? -/
def headerFails (s : State) (u : Nat) : Bool :=
  [0, 1, 2].any (fun i => decide (stampCopy s u (3 * i) ≠ stampCopy s u (3 * i + 1)) || decide (stampCopy s u (3 * i) ≠ stampCopy s u (3 * i + 2)))

/-- STATE of a stamp byte (Table 06.3). -/
def stateOf (b : Nat) : Option UState :=
  if b = 0xFF then some .free else if b = 0x7F then some .opened else if b = 0x3F then some .full
  else if b = 0x1F then some .obsolete else if b = 0x0F then some .retired else none

/-- Is a data word of a unit erased: beyond what its records use, and not programmed raw (R189)? -/
def wordErased (s : State) (u w : Nat) : Bool := decide (12 + (unit s u).used ≤ w) && (mfind s.flash.raw (u * 512 + w)).isNone

/-- Is a whole unit erased and fit for use (R189, R223)? -/
def isErased (s : State) (u : Nat) : Bool := decide ((unit s u).st = .free) && decide ((unit s u).used = 0) && !(unit s u).half

/-- A raw program through the factory service object (R206): refused with NOT_BLANK when the word is not erased, or, for a stamp word, when a bit that
reads 0 would be set; the outcome is kept as a status (log entry 18). -/
def execRawProgram (u w : Nat) (value : BitVec 64) (s : State) : Res :=
  when (coreUp s && decide (u < 204) && decide (w < 512)) s fun s =>
    let k := u * 512 + w
    let blank := if w < 9 then decide (Nat.land value.toNat (stampCopy s u w) = value.toNat)
      else if w < 12 then (mfind s.flash.raw k).isNone else wordErased s u w
    if blank then
      let t := { s with flash := { s.flash with raw := mset s.flash.raw k value.toNat, rawStatus := 0 } }
      if 12 ≤ w then setUnit t u { unit t u with used := max (unit t u).used (w - 11) } else t
    else { s with flash := { s.flash with rawStatus := 0x30 } }

/-- `JournalFill` (Table 06.8): share of the journal ring not obsolete or erased, in %. -/
def journalFill (s : State) : Nat :=
  let us := journalUnits s
  (us.filter (fun u => decide ((unit s u).st = .opened) || decide ((unit s u).st = .full))).length * 100 / us.length

/-- Erased units in the journal ring (R197). -/
def journalErased (s : State) : Nat := ((journalUnits s).filter (isErased s)).length

/-- Units in service, by physical number. -/
def inService (s : State) : List Nat := (List.range 204).filter (fun u => (unit s u).logical.isSome)

/-- `EraseCountMax` (Table 06.8). -/
def eraseMax (s : State) : Nat := ((inService s).map (fun u => (unit s u).count)).foldl max 0

/-- `EraseCountMean` (Table 06.8). -/
def eraseMean (s : State) : Nat := ((inService s).map (fun u => (unit s u).count)).sum / (inService s).length

/-- Queue a UNIT_STATE record (Table 06.5), which sets a work-pending flag (R111). -/
def queueUnitRec (s : State) (action l u count : Nat) : State :=
  let t := startCclk s
  { t with flash := { t.flash with unitRecs := t.flash.unitRecs ++ [.unitState action l u count] } }

/-- Queue an erase, which sets a work-pending flag (R111); its erase-intent record goes first (R199). -/
def queueErase (s : State) (u : Nat) : State :=
  if s.flash.erases.contains u then s
  else let t := startCclk s; { t with flash := { t.flash with erases := t.flash.erases ++ [u] } }

/-- Stamp a unit obsolete and queue its erase. -/
def discardUnit (s : State) (u : Nat) : State := queueErase (setUnit s u { unit s u with st := .obsolete }) u

/-- Does a unit of a ring come before another: an earlier pass, or the same pass and an earlier place? -/
def olderUnit (s : State) (u v : Nat) : Bool :=
  decide ((unit s u).generation < (unit s v).generation)
    || decide ((unit s u).generation = (unit s v).generation) && decide ((unit s u).logical.getD 0 ≤ (unit s v).logical.getD 0)

/-- Put a unit into a list ordered oldest first. -/
def insertUnit (s : State) (u : Nat) (l : List Nat) : List Nat :=
  match l with
  | [] => [u]
  | h :: t => if olderUnit s u h then u :: l else h :: insertUnit s u t

/-- Units oldest generation first. -/
def oldestFirst (s : State) (us : List Nat) : List Nat := us.foldr (insertUnit s) []

/-- Take words in a ring whose oldest unit is erased ahead of need: when the ring has neither a free unit nor one waiting for its erase. -/
def ringAppend (s : State) (lo hi words : Nat) : Option (State × Nat) :=
  (takeSpace s (unitsOf s lo hi) words).map fun (t, u) =>
    let us := unitsOf t lo hi
    if us.any (fun x => decide ((unit t x).st = .free) || decide ((unit t x).st = .obsolete)) then (t, u)
    else match oldestFirst t (us.filter (· ≠ u)) with
      | x :: _ => (discardUnit t x, u)
      | [] => (t, u)

/-- A UNIT_STATE record leaves its entry in the unit-state table (Table 06.2). -/
def tableNote (s : State) : State :=
  match ringAppend s 0 3 2 with
  | some (t, _) => t
  | none => s

/-- An erase completes: every word reads ones, and the ERASED stamp carries the new count (R189, R199). -/
def eraseDone (s : State) (u : Nat) : State :=
  let x := unit s u
  let t := setUnit s u { x with count := x.count + 1, generation := 0, st := .free, used := 0, recs := [], intent := none, corrected := 0, half := false }
  { t with flash := { t.flash with raw := t.flash.raw.filter (fun e => decide (e.1 / 512 ≠ u)) } }

/-- The erase-intent record of a unit (R199). -/
def intentRec (s : State) (txn u : Nat) : Rec :=
  ⟨txn, 0, true, .unitState 0x01 ((unit s u).logical.getD 0) u ((unit s u).count + 1), []⟩

/-- An erase within one step of a restart, a noon pass or a retirement (R199): the erase-intent record, the erase, the ERASED stamp. Where the journal ring has
no space for the record, the erase goes without it (DESIGN CHOICE, log entry 82). -/
def eraseNow (s : State) (u : Nat) : State :=
  let (n, t) := takeTxn s
  let r := intentRec s n u
  let v := match programRec t r with
    | some w => tableNote (madeDurable w r)
    | none => s
  let w := eraseDone v u
  { w with flash := { w.flash with erases := w.flash.erases.filter (· ≠ u) } }

/-- Words that move are written anew, so single-bit errors in them end. -/
def Ecc.rewritten (e : Ecc) : Ecc :=
  match e with
  | .bad => .bad
  | _ => .good

/-- Log entries follow their unit's contents from u to v. -/
def followMove (s : State) (u v : Nat) : State :=
  { s with tally := { s.tally with
      log := s.tally.log.map (fun x => if x.unit = u then { x with unit := v, ecc := x.ecc.rewritten } else x)
      monthly := s.tally.monthly.map (fun x => if x.unit = u then { x with unit := v, ecc := x.ecc.rewritten } else x)
      daily := s.tally.daily.map (fun x => if x.unit = u then { x with unit := v, ecc := x.ecc.rewritten } else x)
      intervals := s.tally.intervals.map (fun x => if x.unit = u then { x with unit := v, ecc := x.ecc.rewritten } else x) } }

/-- Where a retiring unit's contents go: a spare, or in the conserve stage the last unit of the interval log (R207, R209). -/
def spareFor (s : State) (u : Nat) : Option Nat :=
  match (List.range 204).find? (fun v => decide ((unit s v).logical = none) && decide ((unit s v).st ≠ .retired)) with
  | some v => some v
  | none =>
    let iv := unitsOf s 88 191
    if iv.length ≤ 2 then none else (iv.filter (· ≠ u)).getLast?

/-- Enter the read-only stage, logged while events are still taken (R210, R492). -/
def readOnlyStage (s : State) : State :=
  if obj s Obj.StoreStage = 2 then s else setObj (raise s 0x4003) Obj.StoreStage 2

/-- A unit of the interval log gives its place up (R209): its entries go, and it is erased. -/
def takeInterval (s : State) (v : Nat) : State :=
  if (unit s v).logical.isNone then s
  else eraseNow { s with tally := { s.tally with intervals := s.tally.intervals.filter (fun x => decide (x.unit ≠ v)) } } v

/-- Retire a unit (R207, R209, R210): live contents move to a spare, which otherwise takes its place erased; retire and map-change records are written, the
spare count falls. -/
def retire (s : State) (u : Nat) : State :=
  match spareFor s u with
  | none => readOnlyStage s
  | some v =>
    let a := takeInterval s v
    let x := unit a u
    let y := unit a v
    let l := x.logical.getD 0
    let live := decide (x.st = .opened) || decide (x.st = .full)
    let new : Unit := if live then { x with count := y.count, intent := none, half := false, corrected := 0 } else { y with logical := x.logical, st := .free }
    let t := followMove (setUnit (setUnit a v new) u { x with logical := none, st := .retired, recs := [], intent := none, half := false }) u v
    let w := queueUnitRec (queueUnitRec t 0x02 l u x.count) 0x03 l v y.count
    let m := obj w Obj.WearMargin
    let z := raise (setMany w [(Obj.WearMargin, m - 1), (Obj.RetiredUnits, (obj w Obj.RetiredUnits + 1) % 256)]) 0x4001
    let q := if m = 1 then raise (setObj z Obj.StoreStage 1) 0x4002 else z
    { q with flash := { q.flash with erases := q.flash.erases.filter (· ≠ u) } }

/-- Is every record of a journal unit covered by a checkpoint of a transaction? -/
def covered (txn : Nat) (x : Unit) : Bool :=
  (decide (x.st = .full) || decide (x.st = .opened)) && x.recs.all (fun r => !txnAfter r.txn txn)

/-- Stamp obsolete the journal units whose records a checkpoint covers, and queue their erases (R198). -/
def obsoleteCovered (s : State) (txn : Nat) : State :=
  (journalUnits s).foldl (fun a u => if covered txn (unit a u) then discardUnit a u else a) s

/-- Can the journal ring no longer keep one erased unit (R210): none is erased or on its way to it, and no checkpoint can free one? -/
def ringStuck (s : State) : Bool :=
  let us := journalUnits s
  !us.any (fun u => isErased s u || decide ((unit s u).st = .obsolete))
    && (!us.any (fun u => covered (obj s Obj.LastCommittedTxn) (unit s u)) || (journalUnit s 4).isNone)

/-- The home set that is not current (R198): its units, A in 40 to 47, B in 48 to 55. -/
def otherHome (s : State) : List Nat := if s.flash.homeIsA then unitsOf s 48 55 else unitsOf s 40 47

/-- Put a home set beside the current one. -/
def setOtherHome (s : State) (h : Home) : State :=
  if s.flash.homeIsA then { s with flash := { s.flash with homeB := h } } else { s with flash := { s.flash with homeA := h } }

/-- The current home set. -/
def currentHome (s : State) : Home := if s.flash.homeIsA then s.flash.homeA else s.flash.homeB

/-- A checkpoint starts (R198) on erased home units: the whole image goes into the home set that is not current, its first unit without the complete stamp; the
CHECKPOINT record is then in the writer's hand. The words a home set takes are the model's (log entry 81). -/
def beginCheckpoint (s : State) : State :=
  let txn := obj s Obj.LastCommittedTxn
  let gen := (currentHome s).generation + 1
  let t := setOtherHome s ⟨gen, false, true, txn, (setObj s Obj.CheckpointTxn txn).img⟩
  let us := otherHome t
  let v := us.foldl (fun a u =>
    setUnit a u { unit a u with generation := gen, st := if us.head? = some u then .opened else .full, used := 500 }) t
  let (n, w) := takeTxn v
  { w with flash := { w.flash with checkpointDue := false, work := some (.record ⟨n, 0, true, .checkpoint txn gen, []⟩) } }

/-- The CHECKPOINT record stands, so the set's first unit is stamped complete, and the set is the current one; only then are the covered journal units
obsolete (R198). -/
def completeHome (s : State) (txn : Nat) : State :=
  let t := match (otherHome s).head? with
    | some u => setUnit s u { unit s u with st := .full }
    | none => s
  let v := if s.flash.homeIsA then { t with flash := { t.flash with homeB := { t.flash.homeB with complete := true }, homeIsA := false } }
    else { t with flash := { t.flash with homeA := { t.flash.homeA with complete := true }, homeIsA := true } }
  obsoleteCovered (setObj v Obj.CheckpointTxn txn) txn

/-- What a programmed record leaves: a LATCH record is the base of the next one's mask (R467), a UNIT_STATE record has its entry in the unit-state table, a
CHECKPOINT record completes its home set (R198). -/
def afterRecord (s : State) (r : Rec) : State :=
  match r.payload with
  | .latch l => { s with tally := { s.tally with journalled := l.regs.foldl (fun m e => mset m e.1 e.2) s.tally.journalled } }
  | .unitState _ _ _ _ => tableNote s
  | .checkpoint txn _ => completeHome s txn
  | .data _ => s

/-- A checkpoint within one step of a noon pass or a restart (R198, R91): the home units are erased first where they are not (R199). It waits where the writer
has other work in hand. -/
def checkpoint (s : State) : State :=
  if s.flash.work.isSome then { s with flash := { s.flash with checkpointDue := true } }
  else
    let t := beginCheckpoint ((otherHome s).foldl (fun a u => if isErased a u then a else eraseNow a u) s)
    match t.flash.work with
    | some (.record r) => match programRec t r with
      | some u => afterRecord (madeDurable { u with flash := { u.flash with work := none } } r) r
      | none => { s with flash := { s.flash with checkpointDue := true } }
    | _ => s

/-- Append an event to the event log (R196, R480): the number, the uptime when logged, IrqStatus bit [4]; the newest 1024 are held. -/
def logEvent (s : State) (e : Event) : Option State :=
  match ringAppend s 56 63 3 with
  | none => none
  | some (t, u) =>
    let n := (obj t Obj.EventCount + 1) % 2 ^ 32
    let l := t.tally.log ++ [⟨n, e, uptime t, u, .good⟩]
    let l' := l.drop (l.length - 1024)
    let w := setMany { t with tally := { t.tally with log := l' } } [(Obj.EventCount, n), (Obj.EventOldest, (l'.head?.map (·.number)).getD n)]
    some (irq w 4)

/-- Append a snapshot to the billing log: 60 monthly and 400 daily ones are held (Table 14.9); IrqStatus bit [2]. -/
def logSnapshot (s : State) (x : Snapshot) : Option State :=
  match ringAppend s 64 79 (ceilDiv (32 + 8 * x.regs.length) 8) with
  | none => none
  | some (t, u) =>
    let monthly := decide (0x20000000 ≤ x.id)
    let l := (if monthly then t.tally.monthly else t.tally.daily) ++ [{ x with unit := u }]
    let w := if monthly then { t with tally := { t.tally with monthly := l.drop (l.length - 60) } }
      else { t with tally := { t.tally with daily := l.drop (l.length - 400) } }
    some (irq (setObj w (Obj.BillingNewest (if monthly then 2 else 1)) x.id) 2)

/-- Interval entries the log holds at q quantities (Table 14.9), less the units taken under R209. -/
def intervalCapacity (s : State) (q : Nat) : Nat := ((unitsOf s 88 191).length - 1) * (4000 / (16 + 8 * q))

/-- Append an interval entry: it takes the next number (R477). -/
def logInterval (s : State) (x : Interval) : Option State :=
  match ringAppend s 88 191 (2 + x.values.length) with
  | none => none
  | some (t, u) =>
    let n := (obj t Obj.IntervalCount + 1) % 2 ^ 32
    let l := t.tally.intervals ++ [{ x with number := n, unit := u }]
    let l' := l.drop (l.length - intervalCapacity t x.values.length)
    some (setMany { t with tally := { t.tally with intervals := l' } }
      [(Obj.IntervalCount, n), (Obj.IntervalOldest, (l'.head?.map (·.number)).getD n)])

/-- One log append (R196): EVENTS_LOST once space has freed (R485), then events, snapshots and interval entries in order; none in readout (R203). -/
def logOne (s : State) : Option State :=
  match s.tally.eventQ, s.tally.snapsPending, s.tally.intervalsPending with
  | e :: t, _, _ => match logEvent s e with
    | none => none
    | some u =>
      let v := { u with tally := { u.tally with eventQ := t } }
      some (if 0 < v.tally.lost then raise { v with tally := { v.tally with lost := 0 } } 0x7001 (pl 4 (v.tally.lost % 2 ^ 32)) else v)
  | [], x :: t, _ => (logSnapshot s x).map (fun u => { u with tally := { u.tally with snapsPending := t } })
  | [], [], x :: t => (logInterval s x).map (fun u => { u with tally := { u.tally with intervalsPending := t } })
  | [], [], [] => none

/-- Put a record in hand. -/
def writeRec (s : State) (r : Rec) : State := { s with flash := { s.flash with work := some (.record r) } }

/-- The latch at the head of the FIFO (R465): dropped when it is not journalled, or when a newer latch stands behind it and it carries neither a
boundary nor an interval end (log entry 19); else its LATCH record with the registers that changed, or all of them with a boundary (R467). -/
def takeLatchWork (s : State) (l : Latch) (rest : List Latch) : State :=
  let t := { s with tally := { s.tally with fifo := rest } }
  let keep := decide (l.flags % 8 ≠ 0)
  if obj s Obj.StoreStage = 2 ∨ !l.journal then t
  else if !keep ∧ rest ≠ [] then
    match rest with
    | [] => t
    | h :: tl => { t with tally := { t.tally with fifo := { h with journal := true } :: tl } }
  else
    let regs := if l.flags % 4 ≠ 0 then l.regs else l.regs.filter (fun e => mfind s.tally.journalled e.1 ≠ some e.2)
    let (n, u) := takeTxn t
    writeRec u ⟨n, 0, true, .latch { l with regs := regs }, []⟩

/-- The next erase (R199): its erase-intent record first, then its pulses. -/
def nextErase (s : State) : Option State :=
  match s.flash.erases with
  | [] => none
  | u :: rest =>
    match (unit s u).intent with
    | none =>
      let (n, t) := takeTxn (setUnit s u { unit s u with intent := some ((unit s u).count + 1) })
      some (writeRec t (intentRec s n u))
    | some _ => some { s with flash := { s.flash with erases := rest, work := some (.erase u 0) } }

/-- Checkpoint and erase work (R196, R198, R199): a due checkpoint once the home units it goes to are erased, else the next erase. -/
def eraseWork (s : State) : Option State :=
  if s.flash.checkpointDue ∨ 75 ≤ journalFill s then
    if (otherHome s).all (isErased s) then some (beginCheckpoint s)
    else nextErase ((otherHome s).foldl (fun a u => if isErased a u then a else discardUnit a u) s)
  else nextErase s

/-- A staged commit's next record (R196). -/
def commitWork (s : State) : Option State :=
  match s.flash.commits with
  | [] => none
  | r :: rest => some (writeRec { s with flash := { s.flash with commits := rest } } r)

/-- The first of two kinds of work that has any. -/
def orElseWork (a b : Option State) : Option State :=
  match a with
  | some t => some t
  | none => b

/-- The journal writer's next work (R196, R197): unit state, latches, commits, logs, checkpoints and erases; with fewer than two erased journal units
checkpoints and erases come before commits and logs. The dusk buffer is written within the dusk save. -/
def nextWork (s : State) : Option State :=
  match s.flash.unitRecs, s.tally.fifo with
  | p :: rest, _ =>
    let (n, t) := takeTxn { s with flash := { s.flash with unitRecs := rest } }
    some (writeRec t ⟨n, 0, true, p, []⟩)
  | [], l :: rest => some (takeLatchWork s l rest)
  | [], [] =>
    if journalErased s < 2 then orElseWork (eraseWork s) (orElseWork (commitWork s) (logOne s))
    else orElseWork (commitWork s) (orElseWork (logOne s) (eraseWork s))

/-- A partly written record is never programmed over: the journal unit is stamped full (R221). -/
def resumeTorn (s : State) : State :=
  if s.flash.torn then
    (journalUnits s).foldl (fun a u => if (unit a u).st = .opened then setUnit a u { unit a u with st := .full } else a)
      { s with flash := { s.flash with torn := false } }
  else s

/-- V_req of R83 for w payload words and C in µF, mV rounded up: 1.80 V squared plus twice the energy over C. -/
def requiredMv (c w : Nat) : Nat := isqrt (ceilDiv (c * 3240000 + 200000 * (40 + 3 * (w + 1))) c - 1) + 1

/-- Does VNFC cover a record (R83)? -/
def energyFor (s : State) (r : Rec) : Bool := decide (requiredMv (obj s Obj.ReserveCapacitance) (recWords r) ≤ s.pw.vnfc)

/-- A record programmed on the reserve takes its energy from it (R83, R65): VNFC falls. -/
def spendReserve (s : State) (r : Rec) : State :=
  let c := obj s Obj.ReserveCapacitance
  { s with pw := { s.pw with vnfc := isqrt (s.pw.vnfc * s.pw.vnfc - ceilDiv (200000 * (40 + 3 * (recWords r + 1))) c) } }

/-- In readout mode the writer takes staged commits only, as energy and erased space allow (R83, R203). -/
def readoutWork (s : State) : Option State :=
  match s.flash.commits with
  | [] => none
  | r :: _ => if energyFor s r && (journalUnit s (recWords r + 3)).isSome then commitWork s else none

/-- Flash is free, so the journal writer takes its next work (R196). -/
def execJournalWorkTaken (s : State) : Res :=
  when (coreUp s && s.flash.work.isNone) s fun s =>
    if s.pw.mode = .readout then (readoutWork s).getD s else (nextWork (resumeTorn s)).getD (resumeTorn s)

/-- A record finds no erased space to be written again (Table 06.6): PROGRAM_FAIL, and the store is read-only (R210). -/
def programFail (s : State) : State := readOnlyStage (setObj s Obj.LastFaultSubcode 4)

/-- A journal record completes with its commit word, or a word's verify needs correction or fails, and the whole record is written again in the next
erased space (R192, R208); a corrected word also retires the unit (R207). A journal ring that can keep no erased unit then ends writing (R210). -/
def execRecordProgrammed (v : Verify) (s : State) : Res :=
  match s.flash.work with
  | some (.record r) =>
    let t := { s with flash := { s.flash with work := none } }
    match v with
    | .good => match programRec t r with
      | some u =>
        let w := afterRecord (madeDurable (if s.pw.mode = .readout then spendReserve u r else u) r) r
        ok (if ringStuck w then readOnlyStage w else w)
      | none => ok (programFail t)
    | .failed => match takeSpace s (journalUnits s) (recWords r + 3) with
      | some (u, _) => ok u
      | none => ok (programFail t)
    | .corrected => match takeSpace s (journalUnits s) (recWords r + 3) with
      | some (u, n) => ok (retire u n)
      | none => ok (programFail t)
  | _ => ok s

/-- An erase pulse of 2 ms ends and is verified (R200, R207): more than 16 pulses, or no success in 20, retire the unit. -/
def execErasePulseEnd (erased : Bool) (s : State) : Res :=
  match s.flash.work with
  | some (.erase u p) =>
    let t := { s with flash := { s.flash with work := none } }
    if erased then ok (if p + 1 ≤ 16 then eraseDone t u else retire (eraseDone t u) u)
    else if p + 1 < 20 then ok { s with flash := { s.flash with work := some (.erase u (p + 1)) } }
    else ok (retire t u)
  | _ => ok s

/-- The contents of unit u go into erased unit v, which takes u's place; u takes v's place and is erased (R201, R218). -/
def moveUnit (s : State) (u v : Nat) : State :=
  let x := unit s u
  let y := unit s v
  let t := setUnit (setUnit s v { x with count := y.count, corrected := 0, intent := none, half := false })
    u { y with count := x.count, st := .obsolete, used := x.used }
  queueErase (queueUnitRec (queueUnitRec (followMove t u v) 0x03 (x.logical.getD 0) v y.count) 0x03 (y.logical.getD 0) u x.count) u

/-- Noon: units whose corrected words reach `ScrubCorrectLimit` move to an erased unit of their ring (R218). -/
def scrub (s : State) : State :=
  ((inService s).filter (fun u => decide (obj s Obj.ScrubCorrectLimit ≤ (unit s u).corrected))).foldl (fun a u =>
    let code := regionCode ((unit a u).logical.getD 0)
    match (inService a).find? (fun v => isErased a v && decide (regionCode ((unit a v).logical.getD 0) = code)) with
    | none => a
    | some v => raise (moveUnit a u v) 0x4008) s

/-- The units in service of a region. -/
def regionUnits (s : State) (code : Nat) : List Nat := (inService s).filter (fun u => decide (regionCode ((unit s u).logical.getD 0) = code))

/-- Does region a wear faster than region b: a larger mean erase count? -/
def wearsFaster (s : State) (a b : Nat) : Bool :=
  let sum := fun c => ((regionUnits s c).map (fun u => (unit s u).count)).sum
  decide (sum b * (regionUnits s a).length < sum a * (regionUnits s b).length)

/-- The region that wears fastest, by the mean erase count of its units (log entry 83). -/
def fastestRegion (s : State) : Nat := [2, 3, 4, 5, 6, 7, 8].foldl (fun b c => if wearsFaster s c b then c else b) 1

/-- Noon: at most one wear move (R201): the least-worn unit's contents go into an erased unit of the ring that wears fastest, and it serves that ring. -/
def wearMove (s : State) : State :=
  let us := inService s
  let least := us.foldl (fun b u => if (unit s u).count < (unit s b).count then u else b) (us.headD 0)
  if obj s Obj.WearLevelSpread < eraseMax s - (unit s least).count then
    match (regionUnits s (fastestRegion s)).find? (fun v => isErased s v && decide (v ≠ least)) with
    | none => s
    | some v => moveUnit s least v
  else s

/-- Payload of the dusk record as its LATCH-like parts restore it (R222): accumulators, registers, latch number, charge; the acoustic state of R324. -/
def applyDusk (s : State) (d : DuskRec) : State :=
  let t := d.regs.foldl (fun a e => setObj a (regKey e.1) e.2) s
  let u := setMany t ((Obj.LatchSequence, d.latchSeq) :: d.acoustic)
  let v := [1, 2, 3].foldl (fun a o => setObj a (Obj.PulseOutBacklog o) (mget d.backlog o 0)) u
  { v with
    accs := d.accs
    acou := { v.acou with loops := d.loops, template := d.template, captured := d.captured } }

/-- Words of the dusk record: the largest payload a record may have (log entry 81). -/
def duskWords : Nat := 36

/-- Write the dusk record into an erased unit of the dusk area (R87, R212); it takes the next transaction number (R194). -/
def writeDusk (s : State) (d : DuskRec) : State :=
  let (n, t) := takeTxn s
  let us := unitsOf t 4 7
  let v := match us.find? (isErased t) with
    | none => { t with flash := { t.flash with duskUnit := none } }
    | some u =>
      let w := setUnit t u { unit t u with st := .full, used := duskWords, generation := ((newestIn t us).map (fun x => (unit t x).generation)).getD 0 + 1 }
      { w with flash := { w.flash with duskUnit := some u } }
  { setObj v Obj.LastCommittedTxn n with flash := { v.flash with dusk := some { d with txn := n }, duskTime := some (d.bin, d.tk, d.backup) } }

/-- A start with VBAT has used the dusk record, so its unit is erased again: at once in the read-only stage (R212) or when the area holds no erased unit
(Table 06.2), else among the writer's erases. -/
def freeDusk (s : State) : State :=
  let t := { s with flash := { s.flash with dusk := none, duskUnit := none } }
  match s.flash.duskUnit with
  | none => t
  | some u =>
    if obj s Obj.StoreStage = 2 ∨ !(unitsOf s 4 7).any (isErased s) then eraseNow t u else discardUnit t u

/-- The boundaries a replayed LATCH record carries are recorded ones (R472, Table 14.2). -/
def latchBoundary (s : State) (l : Latch) : State :=
  let t := if bitOf l.flags 0 then setObj s (Obj.LastBoundaryId 1) (max (obj s (Obj.LastBoundaryId 1)) (storedDaily l.daily)) else s
  if bitOf l.flags 1 then setObj t (Obj.LastBoundaryId 2) (max (obj t (Obj.LastBoundaryId 2)) (storedMonthly (monthOfDay t (l.daily - 1)))) else t

/-- Pending snapshots and interval entries after a restart (R494): those whose LATCH record stands in a journal unit not obsolete, or whose latch retention SRAM
still holds in the tally latch FIFO. -/
def pendingLogs (s : State) : State :=
  let stands : Nat → Bool := fun seq =>
    (journalUnits s).any (fun u => decide ((unit s u).st ≠ .obsolete) && (unit s u).recs.any (fun r => commitValid r &&
      match r.payload with
      | .latch l => decide (l.seq = seq)
      | _ => false)) || s.tally.fifo.any (fun l => decide (l.seq = seq))
  { s with tally := { s.tally with
      snapsPending := s.tally.snapsPending.filter (fun x => stands x.seq)
      intervalsPending := s.tally.intervalsPending.filter (fun x => stands x.seq) } }

/-- The numbers of the newest and oldest entries are those of the logs a restart finds. -/
def logCounts (s : State) : State :=
  let number : Nat → Option Nat → List (Nat × Nat) := fun k n => (n.map (fun x => (k, x))).toList
  setMany s (number Obj.EventCount (s.tally.log.getLast?.map (·.number)) ++ number Obj.EventOldest (s.tally.log.head?.map (·.number))
    ++ number (Obj.BillingNewest 1) (s.tally.daily.getLast?.map (·.id)) ++ number (Obj.BillingNewest 2) (s.tally.monthly.getLast?.map (·.id))
    ++ number Obj.IntervalCount (s.tally.intervals.getLast?.map (·.number)) ++ number Obj.IntervalOldest (s.tally.intervals.head?.map (·.number)))

/-- Apply one journal record to the image (R193, R222). -/
def applyRec (s : State) (r : Rec) : State :=
  match r.payload with
  | .data l => setMany s l
  | .latch l => latchBoundary (setObj (l.regs.foldl (fun a e => setObj a (regKey e.1) e.2)
      { s with tally := { s.tally with latchUptime := l.uptime, journalled := l.regs.foldl (fun m e => mset m e.1 e.2) s.tally.journalled } })
      Obj.LatchSequence l.seq) l
  | _ => s

/-- Is an object's value carried by the journal, so that a replay rebuilds it; other R objects keep what retention SRAM holds (log entry 20). -/
def replayed (k : Nat) : Bool :=
  match rowOf k with
  | none => false
  | some d => decide (d.kind ≠ .r) || (List.range 28).any (fun i => regKey (i + 1) == k) || decide (k = Obj.LatchSequence)
    || decide (k / 256 = Obj.LastBoundaryId 0 / 256) || decide (k / 256 = Obj.TdcPairState 0 / 256) || decide (k = Obj.TdcMargin) || decide (k = Obj.TdcMode)
    || decide (k / 256 = Obj.TdcCalFailCount 0 / 256)

/-- The base image of a replay: the home set's values, and beside them what retention SRAM kept. -/
def baseImage (s : State) (home : Home) (retained : Bool) : NMap Nat :=
  let put : NMap Nat → Nat × Nat → NMap Nat := fun m e => putImage s.code m e.1 e.2
  if retained then (home.values.filter (fun e => replayed e.1)).foldl put (s.img.filter (fun e => !replayed e.1))
  else home.values.foldl put []

/-- Objects the glade domain itself holds: `BackupBytes`, `AlarmFlags`, `Weekday` and the trims in force (R49, R449, R457). -/
def gladeKeys : List Nat := [Obj.BackupBytes, Obj.AlarmFlags, Obj.Weekday, Obj.RtcTotalTrim, Obj.LfCompensation]

/-- Keys of the objects of chapter 13. -/
def timeKeys : List Nat :=
  (dictionary.filter (fun d => decide (0x3000 ≤ d.index) && decide (d.index ≤ 0x3040))).flatMap
    (fun d => (List.range (d.hi - d.lo + 1)).map (fun i => d.index * 256 + d.lo + i))

/-- A start finds the glade domain's own values as they were, where it has kept running (R49); after a chip reset every object of chapter 13 (R460)
and the coulomb count (R97). -/
def keepGlade (was : State) (chip : Bool) (s : State) : State :=
  if was.pw.gladeLost then s
  else setMany s ((if chip && was.pw.sram then timeKeys ++ gladeKeys ++ [Obj.ChargeUsed, Obj.BudgetBucket] else gladeKeys).map (fun k => (k, obj was k)))

/-- Erase a half-erased unit again, with intent (R223). -/
def reErase (s : State) (u : Nat) : State :=
  raise (bump (eraseNow s u) Obj.HalfEraseRecoveries) 0x4004

/-- Re-erase every unit found half-erased (R223, R91). -/
def reEraseAll (s : State) : State :=
  ((List.range 204).filter (fun u => (unit s u).half)).foldl reErase s

/-- How often a number stands in a list. -/
def times (n : Nat) (l : List Nat) : Nat := (l.filter (· = n)).length

/-- What a restart finds of a log entry's words. -/
def lookWords (n : Nat) (weak bad : List Nat) (e : Ecc) : Ecc :=
  if bad.contains n then .bad else if weak.contains n then .weak (times n weak) false else e

/-- The header stamps as a restart reads them (R190): the majority of the three copies. -/
def restamp (s : State) (u : Nat) : State :=
  setUnit s u { unit s u with count := readStamp s u 0 % 2 ^ 32, st := (stateOf (readStamp s u 2 / 2 ^ 56)).getD (unit s u).st }

/-- Mark what the flash shows at a restart: half-erased units (R222), log words and key records with ECC errors (R186, R491). -/
def markFaults (s : State) (f : FlashFaults) : State :=
  let odd := (List.range 204).filter (fun u => s.flash.raw.any (fun e => decide (e.1 / 512 = u) && decide (e.1 % 512 < 9)))
  let bad := (List.range 204).filter (fun u =>
    decide ((unit s u).st ≠ .retired) && (f.unstable.contains u || (unit s u).intent.isSome || odd.contains u && headerFails s u))
  let t := bad.foldl (fun a u => setUnit a u { unit a u with half := true }) (odd.foldl restamp s)
  { t with
    tally := { t.tally with
      log := t.tally.log.map (fun x => { x with ecc := lookWords x.number f.weakEvents f.badEvents x.ecc })
      monthly := t.tally.monthly.map (fun x => { x with ecc := lookWords x.id f.weakSnaps f.badSnaps x.ecc })
      daily := t.tally.daily.map (fun x => { x with ecc := lookWords x.id f.weakSnaps f.badSnaps x.ecc })
      intervals := t.tally.intervals.map (fun x => { x with ecc := lookWords x.number f.weakIntervals f.badIntervals x.ecc }) }
    ports := { t.ports with keyFaults := t.ports.keyFaults ++ f.badKeys.filter (fun l => !t.ports.keyFaults.contains l) } }

/-- The records of journal units not obsolete, oldest generation first, in offset order, that carry a valid commit word and lie after the home set (the
restart procedure). -/
def collected (s : State) (home : Home) : List Rec :=
  ((oldestFirst s (journalUnits s)).flatMap (fun u => if (unit s u).st = .obsolete then [] else (unit s u).recs)).filter
    (fun r => commitValid r && txnAfter r.txn home.txn)

/-- Transactions in ascending order. -/
def insertTxn (n : Nat) (l : List Nat) : List Nat :=
  match l with
  | [] => [n]
  | h :: t => if h = n then l else if txnAfter h n then n :: l else h :: insertTxn n t

/-- Are a transaction's final part and all earlier parts among its records? -/
def allParts (parts : List Rec) : Bool :=
  parts.any (fun r => r.final && (List.range (r.part + 1)).all (fun i => parts.any (fun q => decide (q.part = i))))

/-- Replay one transaction (R219, R222): skipped, counted and logged when a record of it fails its check, applied when all its parts are there. -/
def replayTxn (f : FlashFaults) (recs : List Rec) (s : State) (n : Nat) : State :=
  let parts := recs.filter (fun r => decide (r.txn = n))
  if f.badTxns.contains n || !parts.all recGood then raise (bump s Obj.UncorrectableReads) 0x4005 (pl 4 n)
  else if allParts parts then setObj (parts.foldl applyRec s) Obj.LastCommittedTxn n
  else s

/-- The home sets a replay may take, A first: complete and with a good CRC; `newestBad` is set where the newest one fails it now (R220). -/
def goodHomes (s : State) (newestBad : Bool) : List (Bool × Home) :=
  let l := [(true, s.flash.homeA), (false, s.flash.homeB)].filter (fun e => e.2.complete && e.2.crcOk)
  let newest := (l.map (·.2.generation)).foldl max 0
  if newestBad then l.filter (fun e => decide (e.2.generation ≠ newest)) else l

/-- The newest of the home sets a replay may take (R222), with its place; an empty one where there is none. -/
def chooseHome (s : State) (newestBad : Bool) : Bool × Home :=
  (goodHomes s newestBad).foldl (fun b e => if b.2.generation < e.2.generation then e else b) (s.flash.homeIsA, .empty)

/-- The dusk record at a replay (R222): applied when its uptime exceeds the image's; the uptimes are compared as counts of 2⁻⁴⁸ s (log entry 84). -/
def replayDusk (s : State) : State :=
  match s.flash.dusk with
  | none => s
  | some d =>
    let t := if s.tally.latchUptime * 2 ^ 48 < d.tk then applyDusk s d else s
    if txnAfter d.txn (obj t Obj.LastCommittedTxn) then setObj t Obj.LastCommittedTxn d.txn else t

/-- The writer's work is cut off: a record in hand leaves a partly written one behind (R221), an erase its intent (R199). -/
def cutWriter (s : State) : State :=
  let cut : Bool := match s.flash.work with
    | some (.record _) => true
    | _ => false
  { s with flash := { s.flash with work := none, torn := s.flash.torn || cut } }

/-- Replay (R219, R220, R222 to R224): the image from the home set and the journal, then the dusk record; with VBAT, half-erased units are erased again, and
without it the re-erases and the checkpoint wait (R91). A record in hand was cut (R221). -/
def replay (s : State) (f : FlashFaults) (retained vbat : Bool) : State :=
  let s1 := cutWriter (markFaults s f)
  let (isA, home) := chooseHome s1 f.homeBad
  let s2 := { s1 with
    img := baseImage s1 home retained
    flash := { s1.flash with commits := [], heldRecs := [], breakTxn := none, homeIsA := isA } }
  let s3 := if f.homeBad then raise s2 0x4005 (pl 4 home.txn) else s2
  let recs := collected s3 home
  let txns := recs.foldl (fun l r => insertTxn r.txn l) []
  let s4 := replayDusk (txns.foldl (replayTxn f recs) (setObj s3 Obj.LastCommittedTxn home.txn))
  let (ms, s5) := draw s4
  let s6 := setObj { s5 with
    flash := { s5.flash with nextTxn := (obj s5 Obj.LastCommittedTxn + 1) % 2 ^ 32, checkpointDue := s5.flash.checkpointDue || !vbat && !txns.isEmpty }
    pw := { s5.pw with replayed := true } } Obj.ReplayTime (ms % 65536)
  let s7 := logCounts (pendingLogs s6)
  if vbat then reEraseAll s7 else s7

end Sys2Proof.Machine
end

