-- ==== Sys2Proof/Machine/Lysef.lean ====
section
/-! DEFINITION. The Lysef bus: the slave's own frames and the master (chapter 15). ACCESS frames are in `Sys2Proof.Machine.Ports`. -/

namespace Sys2Proof.Machine

/-- Does the slave port engine run (R21, R499): bus valid, port out of reset, tracker loaded, no master role? -/
def slaveUp (s : State) : Bool :=
  s.pw.bus && s.ly.tracker && !mget s.ports.inReset Route.lysef.num false && !s.lm.running

/-- HCK of a frame (Table 15.3). -/
def hckOf (addr cmd : Nat) : Nat := Nat.xor (Nat.xor addr cmd) 0xA5

/-- The opcode of a nibble (Table 05.4). -/
def opOf (n : Nat) : Option Op :=
  match n with
  | 1 => some .read
  | 2 => some .write
  | 3 => some .readNext
  | 4 => some .beginSeq
  | 5 => some .commit
  | 6 => some .abort
  | 7 => some .exec
  | 8 => some .status
  | 9 => some .nop
  | _ => none

/-- The access frame in received bytes (Table 05.3), at least eight. -/
def frameOf (b : List Byte) : Frame :=
  ⟨BitVec.ofNat 4 (b.headD 0).toNat, b[1]?.getD 0, BitVec.ofNat 16 (natOf ((b.drop 2).take 2)), b[4]?.getD 0, b[5]?.getD 0, (b.drop 6).take (b.length - 8),
   BitVec.ofNat 16 (natOf (b.drop (b.length - 2))), if (opOf ((b.headD 0).toNat / 16)).isSome then none else some (BitVec.ofNat 4 ((b.headD 0).toNat / 16)), true,
   false⟩

/-! ### Cells and frames (R497 to R503) -/

/-- Value of a cell: 0 when its space lasted longer than its mark, else 1 (R497). -/
def LyCell.one (c : LyCell) : Bool := decide (c.space ≤ c.mark)

/-- Values of the cells that follow the sync cell, each latched at the next cell's opening edge, up to a space or mark of twice the tracked length: a break or
idle (R497, R498; log entry 94). -/
def cellBits (len : Nat) (l : List LyCell) : List Bool :=
  (l.takeWhile (fun c => decide (c.space < 2 * len) && decide (c.mark < 2 * len))).map LyCell.one

/-- Number that bits spell, the most significant first. -/
def bitsNat (l : List Bool) : Nat := l.foldl (fun a b => 2 * a + b.toNat) 0

/-- Whole bytes of a run of bits, most significant bit first (R501). -/
def bytesOfBits (l : List Bool) : List Byte :=
  match l with
  | a :: b :: c :: d :: e :: f :: g :: h :: t => BitVec.ofNat 8 (bitsNat [a, b, c, d, e, f, g, h]) :: bytesOfBits t
  | _ => []

/-- The short address the slave answers to (R530): one assigned since the bus became valid, else `LysefShortAddress`. -/
def slaveAddress (s : State) : Nat := s.ly.address.getD (obj s Obj.LysefShortAddress)

/-- A frame reaches the slave port engine: its sync cell reloads the tracker and shows its rate (R499, R501), and its cells decode; silence without the
engine. -/
def slaveFrame (s : State) (cells : List LyCell) (f : State → List Bool → Res) : Res :=
  match cells with
  | [] => ok s
  | c :: rest =>
    if !slaveUp s then ok s
    else
      let len := c.space + c.mark
      f (setObj { s with ly := { s.ly with cell := len } } Obj.LysefCellRateSeen ((roundDiv 1000000000 len).toNat % 65536)) (cellBits len rest)

/-- What the header of a frame asks of the slave (R502, R503). -/
inductive LyHeader where
  | silent | wrong | mine
deriving DecidableEq, Repr

/-- Judge a header: a frame cut short or with a bad HCK counts as an error; another device's address is none of ours; a CMD that is not the frame's, or an
address that does not fit it, is an error (R502, R503, Table 15.8). -/
def lyHeader (s : State) (b : List Byte) (cmd : Nat) (short : Bool) : LyHeader :=
  match b with
  | addr :: c :: hck :: _ =>
    if hck.toNat ≠ hckOf addr.toNat c.toNat then .wrong
    else if addr.toNat ≠ 0 ∧ addr.toNat ≠ slaveAddress s then .silent
    else if c.toNat ≠ cmd ∨ (short = true) = (addr.toNat = 0) then .wrong
    else .mine
  | _ => .wrong

/-- A command to address 0 with n payload bytes before its CRC-16 (Table 15.4): carried out when it is intact, else an error or silence. -/
def slaveCmd (s : State) (b : List Byte) (cmd n : Nat) (f : State → State) : Res :=
  match lyHeader s b cmd false with
  | .silent => ok s
  | .wrong => ok (bump s Obj.LysefFrameErrors)
  | .mine =>
    if b.length < n + 5 ∨ crc16 (b.take (n + 3)) ≠ natOf ((b.drop (n + 3)).take 2) then ok (bump s Obj.LysefFrameErrors) else ok (f s)

/-- Payload bytes of a command frame from byte i, n of them, as a number. -/
def lyField (b : List Byte) (i n : Nat) : Nat := natOf ((b.drop (3 + i)).take n)

/-! ### The slave's frames -/

/-- LYSEF_IDLE (R498, Table 15.8): the frame in progress ends; one cut short is an error. -/
def execLysefIdle (partialFrame : Bool) (s : State) : Res :=
  when (slaveUp s) s (fun s =>
    let t := { s with ly := { s.ly with answered := [], reply := [] } }
    if partialFrame then bump t Obj.LysefFrameErrors else t)

/-- The P and Q cells a key answers 0, group after group (R505): k bits to go, and the cells of the groups as the slave saw them. The cell W after a group
tells the master's choice; a device whose key differs stops taking part, and with no further group the frame has ended. -/
def searchAnswers (key : Nat) (k : Nat) (part : Bool) (cells : List Bool) : List (Bool × Bool) :=
  match k with
  | 0 => []
  | j + 1 =>
    let b := bitOf key j
    (if part then (!b, b) else (false, false)) ::
      (match cells with
      | _ :: _ :: w :: rest => searchAnswers key j (part && b == w) rest
      | _ => [])

/-- SEARCH_START (R505, R506): header, mode, salt and CRC are 14 bytes, the search groups follow. -/
def execSearchStart (addr hck mode salt crc choices : List LyCell) (s : State) : Res :=
  slaveFrame s (addr ++ hck ++ mode ++ salt ++ crc ++ choices) fun s l =>
    let b := bytesOfBits (l.take 112)
    slaveCmd s b 0x10 9 (fun s =>
      let mode := lyField b 0 1
      if 1 < mode then bump s Obj.LysefFrameErrors
      else
        let part : Bool := s.ly.steady && (decide (mode = 0) || decide (obj s Obj.LysefNew = 1))
        { s with ly := { s.ly with answered := searchAnswers (Nat.xor (obj s Obj.DeviceIdentity) (lyField b 1 8)) 64 part (l.drop 112) } })

/-- ECHO (R507): answered with the complement of the identity. -/
def execEcho (addr hck identity crc : List LyCell) (s : State) : Res :=
  slaveFrame s (addr ++ hck ++ identity ++ crc) fun s l =>
    let b := bytesOfBits l
    slaveCmd s b 0x12 8 (fun s =>
      if lyField b 0 8 = obj s Obj.DeviceIdentity then { s with ly := { s.ly with reply := bytesOf 8 (2 ^ 64 - 1 - lyField b 0 8) } } else s)

/-- Journal an object; where the journal write is refused for want of energy or space (R204), the value holds in the image alone (R508). -/
def journalOrHold (s : State) (key v : Nat) : State :=
  let t := (commitObjs s [(key, v)]).2
  if s.pw.mode = .readout && !(t.flash.commits.drop s.flash.commits.length).all (fun r => energyFor s r && (programRec s r).isSome) then setObj s key v
  else t

/-- ASSIGN (R508): the matching device answers, takes the address, clears `LysefNew`, journals and logs. -/
def execAssign (addr hck identity short crc : List LyCell) (s : State) : Res :=
  slaveFrame s (addr ++ hck ++ identity ++ short ++ crc) fun s l =>
    let b := bytesOfBits l
    slaveCmd s b 0x13 9 (fun s =>
      if lyField b 0 8 = obj s Obj.DeviceIdentity then
        let short := lyField b 8 1
        let t := { s with ly := { s.ly with reply := bytesOf 1 short ++ bytesOf 1 (255 - short), address := some short } }
        raise (setObj (journalOrHold t Obj.LysefShortAddress short) Obj.LysefNew 0) 0x5001
      else s)

/-- TIME (R510, R511): the counts latched at the sync edge, less 2.5 LF periods, are a Lysef reference. -/
def execTime (addr hck stamp crc : List LyCell) (s : State) : Res :=
  slaveFrame s (addr ++ hck ++ stamp ++ crc) fun s l =>
    let b := bytesOfBits l
    slaveCmd s b 0x20 8 (fun s =>
      if coreUp s then phaseReference s 3 (lyField b 0 8) (s.rtc.tk - 5 * 2 ^ 32) (s.rtc.bin - 5 * 2 ^ 32) else s)

/-- A write of `LysefShortAddress` (R509): the address of the port; 0 sets `LysefNew`. -/
def setShortAddress (s : State) (v : Nat) : State :=
  let t := { s with ly := { s.ly with address := none } }
  if v = 0 then setObj t Obj.LysefNew 1 else t

/-- A command frame the master sends (Table 15.3): ADDR, CMD, HCK, payload, and the CRC of R158 where `crc`. -/
def masterFrame (addr cmd : Nat) (payload : List Byte) (crc : Bool) : List Byte :=
  let b := bytesOf 1 addr ++ bytesOf 1 cmd ++ bytesOf 1 (hckOf addr cmd) ++ payload
  if crc then b ++ bytesOf 2 (crc16 b) else b

/-- Keep the last frame sent. -/
def sendFrame (s : State) (f : List Byte) : State := { s with lm := { s.lm with frame := f } }

/-- A break of 3 Tc (R517): every forwarded sequence ends (R27). -/
def masterBreak (s : State) : State := { s with lm := { s.lm with openSlaves := [], frame := [] } }

/-- May the master send? -/
def masterUp (s : State) : Bool := s.lm.running && isFull s && !s.lm.fault

/-- Is a read cell answered 0 (R514): does its mean LSNS current exceed the baseline by more than `LsnsThreshold`, in µA, LSNS showing `LsnsGain` µV per mA? -/
def readsZero (s : State) (c : LsnsRead) : Bool :=
  decide (obj s Obj.LsnsThreshold * obj s Obj.LsnsGain < (c.level - c.base) * 1000)

/-- Read cells as bits: 0 where a slave sinks. -/
def readBits (s : State) (l : List LsnsRead) : List Bool := l.map (fun c => !readsZero s c)

/-- The P and Q cells of a pass, group after group: whether each was read 0. -/
def readPairs (s : State) (l : List LsnsRead) : List (Bool × Bool) :=
  match l with
  | p :: q :: t => (readsZero s p, readsZero s q) :: readPairs s t
  | _ => []

/-- Begin a search with a fresh salt (R505). -/
def beginSearch (s : State) (newOnly : Bool) : State :=
  let (z, t) := draw s
  setObj { masterBreak t with lm := { t.lm with
    search := some ⟨newOnly, z % 2 ^ 64, 0, [], false, 0⟩, identity := none, matched := false, deferred := none, openSlaves := [] } } Obj.LysefSearchStatus 1

/-- A search falls due (R525): deferred while a forwarded sequence is open and `LysefBreakDefer` allows. -/
def searchDue (s : State) (newOnly : Bool) : State :=
  if !masterUp s then s
  else if s.lm.openSlaves ≠ [] ∧ obj s Obj.LysefBreakDefer ≠ 0 then { s with lm := { s.lm with deferred := some newOnly } }
  else beginSearch s newOnly

/-- Start the master role (R513, R531): the slave engine in reset (R21), a break, a mode 0x01 search. -/
def startMaster (s : State) : State :=
  if isFull s ∧ obj s Obj.LysefMasterEnable = 1 ∧ !s.lm.running then
    let t := resetPort s .lysef
    searchDue { t with lm := { t.lm with running := true, fault := false, noAnswer := [], lost := [] } } true
  else s

/-- End the master role: LMOD low, the search ends. The slave engine waits for a break (R499). -/
def stopMaster (s : State) : State :=
  if !s.lm.running then s
  else setObj { s with lm := { s.lm with running := false, search := none, identity := none, matched := false, deferred := none, openSlaves := [] } }
    Obj.LysefSearchStatus (if obj s Obj.LysefSearchStatus = 1 then 0 else obj s Obj.LysefSearchStatus)

/-- A write of `LysefMasterEnable`. -/
def masterEnabled (s : State) (v : Nat) : State := if v = 1 then startMaster s else stopMaster s

/-- A write of `LysefCellRate` while the master runs (R517): a break, then the new rate. -/
def cellRateChanged (s : State) : State := if masterUp s then masterBreak s else s

/-- Keep the key path's bit k. -/
def putPath (x : LySearch) (k : Nat) (c : Bool) : LySearch := { x with path := putBit x.path k c }

/-- One pass over the bits (R515), from bit j − 1 down: `target` is the most recent fork-list entry of earlier passes. Answers the search after the pass
and the bit at which the branch was empty, if one was. -/
def passBits (x : LySearch) (target : Option Nat) (j : Nat) (l : List (Bool × Bool)) : LySearch × Option Nat :=
  match j with
  | 0 => (x, none)
  | k + 1 =>
    let (p, q) := l.headD (false, false)
    let above : Bool := match target with
      | some f => decide (f < k)
      | none => false
    if above then
      if (if bitOf x.path k then q else p) then passBits x target k l.tail else (x, some k)
    else if target = some k then
      let y := { x with forks := x.forks.filter (fun f => f ≠ k) }
      if p then passBits (putPath y k false) target k l.tail else (y, some k)
    else if p && q then passBits { putPath x k true with forks := x.forks ++ [k] } target k l.tail
    else if p then passBits (putPath x k false) target k l.tail
    else if q then passBits (putPath x k true) target k l.tail
    else (x, some k)

/-- A pass that failed at bit k, or after its last bit (R515, R516): counted and logged; the search ends when no fork is left. -/
def branchEmpty (s : State) (x : LySearch) (k : Nat) : State :=
  let y := { x with forks := x.forks.filter (fun f => k ≤ f), later := true }
  let t := raise (bump { s with lm := { s.lm with search := some y, identity := none, matched := false } } Obj.LysefBranchEmptyCount) 0x5003
  if y.forks = [] then raise (setObj { t with lm := { t.lm with search := none } } Obj.LysefSearchStatus 2) 0x5002 [y.found] else t

/-- LYSEF_SEARCH_PASS (R514, R515, R517): the read cells P and Q of each group as LSNS showed them. -/
def execLysefSearchPass (answers : List LsnsRead) (s : State) : Res :=
  match s.lm.search with
  | none => ok s
  | some x =>
    when (masterUp s && s.lm.identity.isNone) s (fun s =>
      let t := sendFrame (masterBreak s) (masterFrame 0 0x10 (bytesOf 1 (if x.newOnly then 1 else 0) ++ bytesOf 8 x.salt) true)
      match passBits x (if x.later then x.forks.getLast? else none) 64 (readPairs s answers) with
      | (y, some k) => branchEmpty t y k
      | (y, none) =>
        let z := { y with later := true, found := y.found + 1 }
        let u := { t with lm := { t.lm with search := some z, identity := some (Nat.xor z.path z.salt), matched := false } }
        if z.forks = [] then raise (setObj { u with lm := { u.lm with search := none } } Obj.LysefSearchStatus 2) 0x5002 [z.found] else u)

/-- A mismatch after a pass: nothing is recorded, and the master backtracks as for BRANCH_EMPTY (R516). -/
def mismatch (s : State) : State :=
  match s.lm.search with
  | some x => branchEmpty s { x with found := x.found - 1 } 0
  | none => raise (bump { s with lm := { s.lm with identity := none, matched := false } } Obj.LysefBranchEmptyCount) 0x5003

/-- LYSEF_MASTER_ECHO (R514, R516, R507). -/
def execLysefMasterEcho (answer : List LsnsRead) (s : State) : Res :=
  match s.lm.identity with
  | none => ok s
  | some d =>
    when (masterUp s) s (fun s =>
      let t := sendFrame s (masterFrame 0 0x12 (bytesOf 8 d) true)
      if answer.length = 64 ∧ 2 ^ 64 - 1 - bitsNat (readBits s answer) = d ∧ d ≠ 0 ∧ d ≠ 0xFFFFFFFFFFFFFFFF then { t with lm := { t.lm with matched := true } } else mismatch t)

/-- Devices of the table that hold a Lysef short address. -/
def segmentCount (s : State) : State := setObj s Obj.LysefSegmentCount ((s.radio.stems.filter (fun e => e.2.lysef)).length)

/-- LYSEF_MASTER_ASSIGN (R514, R516, R527): the entry the identity holds, else the lowest free one (log entry 32); recorded on a matching response. -/
def execLysefMasterAssign (answer : List LsnsRead) (s : State) : Res :=
  match s.lm.identity with
  | none => ok s
  | some d =>
    when (masterUp s && s.lm.matched) s (fun s =>
      match (match entryHolding s d with
        | some n => some n
        | none => freeEntry s) with
      | none => mismatch s
      | some n =>
        let t := sendFrame s (masterFrame 0 0x13 (bytesOf 8 d ++ bytesOf 1 n) true)
        if answer.length = 16 ∧ bitsNat (readBits s answer) = n * 256 + (255 - n) then
          let e := (mfind t.radio.stems n).getD ⟨d, 0, true, 1, 0, [], none⟩
          let u := setStem { t with lm := { t.lm with identity := none, matched := false } } n { e with lysef := true, state := 1, contact := uptime t }
          raise (segmentCount u) 0x5004
        else mismatch t)

/-- LYSEF_NEW_POLL (R518). -/
def execLysefNewPoll (s : State) : Res := when (masterUp s && decide (obj s Obj.LysefNewPoll ≠ 0)) s (fun s => searchDue s true)

/-- LYSEF_TIME_BROADCAST (R510, R518): the master's binary time at the sync edge. -/
def execLysefTimeBroadcast (s : State) : Res :=
  when (masterUp s && decide (obj s Obj.LysefTimeInterval ≠ 0)) s (fun s => sendFrame s (masterFrame 0 0x20 (bytesOf 8 (t48 s)) true))

/-- LYSEF_BREAK_DEFER_EXPIRY (R525). -/
def execLysefBreakDeferExpiry (s : State) : Res :=
  match s.lm.deferred with
  | none => ok s
  | some b => when (masterUp s) s (fun s => beginSearch s b)

/-- `LysefSearch` (R515, R518). -/
def searchWritten (s : State) (v : Nat) : Acted := done (searchDue s (decide (v = 2)))

/-- Show `LysefMasterResult` (Table 15.6). -/
def masterResult (s : State) (code addr : Nat) (resp : List Byte) : State :=
  { s with lm := { s.lm with result := padTo 250 0 (bytesOf 1 code ++ bytesOf 1 addr ++ resp.take 248) } }

/-- Outcome of a response as read: none when all ones, its CRC failed, or received (Table 15.6). -/
def answerCode (l : List Byte) : Nat :=
  if l.all (fun b => b = 0xFF) then 2
  else if crc16 (l.take (8 + ((l[5]?).getD 0).toNat)) = 0 && decide (8 + ((l[5]?).getD 0).toNat ≤ l.length) then 0 else 3

/-- Follow BEGIN, COMMIT and ABORT forwarded to a slave (R525); when none is left open, a deferred search starts. -/
def trackForwarded (s : State) (addr opcode : Nat) : State :=
  let l := if opcode = 4 then addr :: s.lm.openSlaves.filter (fun a => a ≠ addr)
    else if opcode = 5 ∨ opcode = 6 then s.lm.openSlaves.filter (fun a => a ≠ addr) else s.lm.openSlaves
  let t := { s with lm := { s.lm with openSlaves := l } }
  match t.lm.deferred with
  | some b => if l = [] then beginSearch t b else t
  | none => t

/-- `LysefMasterSend` (R519): byte 0 the short address, bytes 1 onward the access request frame, whose length byte is byte 6. -/
def masterSend (s : State) (d : List Byte) : Acted :=
  let addr := (d.headD 0).toNat
  let len := ((d[6]?).getD 0).toNat
  if 231 < len then refuse stRange s
  else if !(masterUp s && s.pw.bus) then done (masterResult s 4 addr [])
  else
    let body := (d.drop 1).take (8 + len)
    let t := sendFrame s (masterFrame addr 0x01 body false)
    let code := answerCode t.lm.answer
    let u := masterResult { t with lm := { t.lm with
      noAnswer := if code = 2 then mupd t.lm.noAnswer addr 0 (· + 1) else mdel t.lm.noAnswer addr
      lost := if code = 2 then t.lm.lost else t.lm.lost.filter (fun a => a ≠ addr) } } code addr (if code = 2 then [] else t.lm.answer)
    done (trackForwarded u addr ((body.headD 0).toNat / 16))

/-- LYSEF_DEVICE_LOST (R528). -/
def execLysefDeviceLost (addr : Byte) (s : State) : Res :=
  when (masterUp s && decide (obj s Obj.LysefLostLimit ≤ mget s.lm.noAnswer addr.toNat 0) && !s.lm.lost.contains addr.toNat) s (fun s =>
    raise { s with lm := { s.lm with lost := addr.toNat :: s.lm.lost } } 0x5005 [addr.toNat])

/-- LYSEF_BUS_FAULT (R529): the LSNS baseline, µV, exceeds 1.5 mA × 256 + 20 mA, or the bus is not valid; logged once per onset; a search ends by fault. -/
def execLysefBusFault (s : State) (base : Nat := 0) : Res :=
  when (masterUp s && (decide (404 * obj s Obj.LsnsGain < base) || !s.pw.bus)) s (fun s =>
    let t := raise { s with lm := { s.lm with fault := true, search := none, identity := none, matched := false, deferred := none, openSlaves := [] } } 0x5006
    if s.lm.search.isSome then setObj t Obj.LysefSearchStatus 3 else t)

/-- LYSEF_FAULT_RETRY (R529): 10 s later the master retries with a break. -/
def execLysefFaultRetry (s : State) : Res :=
  when (s.lm.running && s.lm.fault) s (fun s => masterBreak { s with lm := { s.lm with fault := false } })

end Sys2Proof.Machine
end

