-- ==== Sys2Proof/Machine/Power.lean ====
section
/-! DEFINITION. Sources, modes, the dusk save, restarts, the energy budget and the core voltage (chapters 02 and 03; the restart rules of the other
chapters). -/

namespace Sys2Proof.Machine

/-- Is the trickle charger on (R69)? -/
def setCharger (s : State) : State := { s with pw := { s.pw with charger := isFull s && s.pw.vbat && decide (obj s Obj.TrickleCurrent ≠ 0) } }

/-- `ActiveSources` (Table 03.9). -/
def activeSources (s : State) : Nat :=
  (if s.pw.vbat then 1 else 0) + (if s.pw.bus then 2 else 0) + (if s.pw.field then 4 else 0) + (if s.pw.vbk then 8 else 0)

/-! ### Stopping -/

/-- Output pulses at a dusk save (R423): the pad is released; a pulse that has run at least half its width counts as emitted. -/
def releaseOut (s : State) (o : Nat) : State :=
  let x := outSt s o
  let t := setOut (driveOut s o false) o ⟨false, false, ticks s⟩
  if x.pulsing ∧ obj s (Obj.PulseOutWidth o) * 32768 ≤ 2 * 1000 * (ticks s - x.since) then
    setMany t [(Obj.PulseOutBacklog o, obj s (Obj.PulseOutBacklog o) - 1), (Obj.PulseOutCount o, (obj s (Obj.PulseOutCount o) + 1) % 2 ^ 64)]
  else t

/-- The radio domain stops (R47, R85): what is on air or under way ends, PAEN and RFSW fall; queued frames stay. -/
def stopRadio (s : State) : State :=
  { s with
    radio := { s.radio with air := [], event := none, await := false, lbt := none, glancing := false, wakeWait := false, window := false,
                            installReady := false, beaconOpen := none, join := none, scan := none, compatWindow := false, dawn := false }
    pads := { s.pads with paen := false, rfsw := false } }

/-- HF_START_FAIL (R129, Table 01.8): logged and counted; the measure and radio domains stop for this wake, whatever ran in them without a result, and
pending core work goes on on the RC. The wake ends at CCLK_STOP. -/
def execHfStartFail (s : State) : Res :=
  when (coreUp s) s fun s =>
    let t := stopRadio (abandonCycle (bump (raise s 0x1204) Obj.HfStartFailCount))
    { t with
      pw := { t.pw with hfFailed := true }
      clk := { t.clk with mclk := false, cclk := if t.clk.cclk = .stopped then .stopped else .rc, hfMeasuring := false }
      tdc := { t.tdc with grant := none, batch := false, calibrating := false, waiting := [], fin := none, owed := [] }
      temp := { t.temp with conv := none }
      pulse := { t.pulse with stamping := none } }

/-- The core, measure and radio domains stop (Table 02.2, R47, R85, R284, R313, R381): whatever runs ends without a result. -/
def haltCore (s : State) : State :=
  let t := stopRadio (stopMaster (countNoLine (abandonCycle s) false))
  { t with
    pads := { t.pads with lmod := false, vdrv := false, po := [], tcomLow := false }
    acou := { t.acou with cycleStart := none, prevStart := none, lastNoCycle := none, noCycleRun := 0, ownTicks := 0, sampleNow := none }
    tdc := { t.tdc with waiting := [], grant := none, calibrating := false, batch := false, fin := none, owed := [] }
    temp := { t.temp with conv := none, inUse := [], due := false, firstDue := false }
    elec := { t.elec with blockOpen := false, cycles := 0, lastEnd := none, validCycles := 0, excursion := none, noLineSince := none }
    pulse := { t.pulse with ins := [], stamping := none }
    clk := { t.clk with cclk := .stopped, mclk := false, hfMeasuring := false }
    pw := { t.pw with charger := false, storeOpen := false, hfFailed := false } }

/-- Sessions, sequences, shadows and pending sets end (R88, R141, R146, R236), and the store front empties (R259). Tags whose request still runs are freed;
held responses stay (log entry 35). -/
def endCore (s : State) : State :=
  releaseWork (setObj { s with
    shadow := [], pend := [], pendBlocks := []
    ports := { s.ports with
      sessions := s.ports.sessions.map (fun e => (e.1, { e.2 with level := 0, challenge := none }))
      seqs := []
      tags := s.ports.tags.filter (fun e => match e.2.phase with
        | .held _ _ => true
        | .done _ => true
        | _ => false) }
    front := { s.front with waiting := [], source := [], xfer := none, freezeBy := none, freezeTicks := 0, groveRefusal := none } } Obj.ArbiterFreeze 0)

/-- What the journal writer does as a dusk save starts (R86, R87, R215): a record being programmed is finished, an erase is abandoned; so is a checkpoint, whose
home set stays without its complete stamp and whose journal units stay in use. -/
def settleWriter (s : State) : State :=
  let t := { s with flash := { s.flash with work := none } }
  match s.flash.work with
  | some (.record r) => match programRec t r with
    | some u => match r.payload with
      | .checkpoint _ _ => madeDurable u r
      | _ => afterRecord (madeDurable u r) r
    | none => t
  | some (.erase u _) => setUnit t u { unit t u with half := true }
  | none => t

/-- The dusk record (Table 06.5, R19, R24, R324, R416, R422, R449, R466, R574); its transaction number is given as it is written (R194). -/
def duskRecord (s : State) : DuskRec :=
  { txn := 0, accs := s.accs, regs := allRegs s, latchSeq := obj s Obj.LatchSequence, bin := s.rtc.bin, tk := s.rtc.tk,
    charge := obj s Obj.ChargeUsed, backup := obj s Obj.BackupBytes, txCounter := (s.radio.nbrs.map (fun e => e.2.tx)).foldl max 0,
    loops := s.acou.loops, acoustic := subs4.flatMap (fun p => [(Obj.RxGain p, obj s (Obj.RxGain p)), (Obj.PathStatus p, obj s (Obj.PathStatus p)),
      (Obj.ZeroOffset p, obj s (Obj.ZeroOffset p))]), template := s.acou.template, captured := s.acou.captured,
    backlog := [1, 2, 3].map (fun o => (o, obj s (Obj.PulseOutBacklog o))), excursion := s.elec.excursion }

/-- DUSK_SAVE (Table 03.6): the open block's energies (R422), pulses (R423), the running cycle (R29), locks (R88), the record in hand (R86), the dusk record;
then dusk hold. EnterTransport takes effect (Table 03.9). -/
def execDuskSave (vbk : Bool) (samples : List ElecSample) (s : State) : Res :=
  when (s.pw.vbat && coreUp s) s (fun s =>
    let t := if elecRuns s && s.elec.blockOpen then closeEnergies s samples else s
    let u := settleWriter (endCore (endCollect ([1, 2, 3].foldl releaseOut t) 6))
    let rec_ := duskRecord (abandonCycle (countNoLine u false))
    let v := haltCore u
    let w := writeDusk (setObj (bump v Obj.DuskCount) Obj.LastDuskTime (t48 v)) rec_
    { w with
      pw := { w.pw with vbat := false, vbk := vbk, mode := .duskHold, hold := true, chargeSnap := obj w Obj.ChargeUsed, down := true,
                        transportSet := w.pw.transportSet || w.pw.transportArmed, transportArmed := false } })

/-- The glade domain starts from its first source on the RC (R131, Table 04.7 step 1). -/
def startGlade (s : State) : State :=
  if s.pw.gladeOn then s
  else
    { s with
      clk := { s.clk with lf := .rc, passed := [.rc], testing := some .xtal, watch := none, rcTrim := 0 }
      pw := { s.pw with gladeOn := true } }

/-- The core and everything in SRAM loses its supply (retention SRAM, chapter 06): what was not journalled and not in a dusk record is gone; queued events
are counted as lost (R485, R494). -/
def loseCore (s : State) (mode : Mode) : State :=
  let t := cutWriter (endCore (haltCore s))
  let n := t.tally.eventQ.length
  let u := setObj t Obj.EventsLost ((obj t Obj.EventsLost + n) % 2 ^ 32)
  { u with
    pw := { u.pw with mode := mode, hold := false, sram := false, down := true, replayed := false }
    ports := { u.ports with tags := [], out := [], heldOrder := 0 }
    accs := .zero
    acou := { u.acou with loops := [], template := [], captured := false, capture := none, checkPending := false }
    flow := { u.flow with holdSince := none, adapting := false, zeroCal := none, revSince := none, revClear := none, sosRun := 0 }
    temp := { u.temp with ports := [], standbyUsed := [], disagreeRun := [], primaryRun := [], sensorPend := none, refPrev := none }
    pulse := { u.pulse with outs := [] }
    tally := { u.tally with eventQ := [], lost := u.tally.lost + n, fifo := [], postponed := none, sinceLatch := 0 }
    radio := { u.radio with txq := [], heldResp := [], inbox := [], send := none, mapChange := none } }

/-- BROWN_OUT: VBAT below 1.80 V holds the core, measure and radio domains in reset (R82); the core goes on from bus or field where it runs in readout. -/
def execBrownOut (s : State) : Res :=
  when (decide (s.pw.mode ≠ .off) && decide (s.pw.mode ≠ .backup)) s (fun s =>
    if s.pw.mode = .readout then { s with pw := { s.pw with vbat := false, hold := false } }
    else loseCore { s with pw := { s.pw with vbat := false } } .backup)

/-- GLADE_STOP: VBK falls invalid with no other valid source (R94). -/
def execGladeStop (s : State) : Res :=
  when (s.pw.gladeOn && !s.pw.vbat && !s.pw.bus && !s.pw.field) s (fun s =>
    let t := if s.pw.mode = .backup then s else loseCore s .backup
    { t with pw := { t.pw with gladeOn := false, gladeLost := true, vbk := false, mode := .off } })

/-- VBK_VALID: with no other source, a stopped glade domain starts on the RC, in backup mode (R62, R131). -/
def execVbkValid (s : State) : Res :=
  let t := { s with pw := { s.pw with vbk := true } }
  ok (if !s.pw.gladeOn && !s.pw.vbat && !s.pw.bus && !s.pw.field then startGlade { t with pw := { t.pw with mode := .backup } } else t)

/-- The bus becomes valid at the device (R509): `LysefNew` sets, the port is powered, held in reset until a break has ended (R499). -/
def busUp (s : State) : State :=
  if s.pw.bus then s
  else setObj { s with
    pw := { s.pw with bus := true }
    ly := ⟨false, 0, false, [], [], none⟩
    ports := { s.ports with inReset := mset s.ports.inReset Route.lysef.num true } } Obj.LysefNew 1

/-- The field becomes valid: the vicinity port waits for the 16th field cycle (R121, R560). -/
def fieldUp (s : State) : State :=
  if s.pw.field then s
  else { s with pw := { s.pw with field := true }, ports := { s.ports with inReset := mset s.ports.inReset Route.vicinity.num true, vic := .powerOff } }

/-- BUS_VALID (R62, R64, R509). Starting the core from it is START_FROM_BUS_OR_FIELD. -/
def execBusValid (s : State) : Res := ok (busUp s)

/-- The core stops when its last source of Table 03.1 goes in readout mode: backup mode, or dusk hold while VBAT stays above the brown-out level
(Table 03.3), where retention SRAM keeps its contents. -/
def readoutEnds (s : State) : State :=
  if s.pw.mode = .readout && !s.pw.bus && !s.pw.field then
    if s.pw.hold then let t := endCore (haltCore s); { t with pw := { t.pw with mode := .duskHold, down := true } }
    else loseCore s .backup
  else s

/-! ### Starting -/

/-- Time after a stop of the glade domain (R94, R458): counts and `BackupBytes` of the newest dusk record, taken literally beside R464 (log entry 102). -/
def restoreTime (s : State) : State :=
  if !s.pw.gladeLost then s
  else
    let (bin, tk, backup) := s.flash.duskTime.getD (0, 0, 0)
    let t := setMany s [(Obj.BackupBytes, backup), (Obj.AlarmFlags, 0)]
    raise { t with
      rtc := { t.rtc with bin := bin, tk := tk, slew := 0, pendSet := none, valid := false, disciplined := false, restored := true, loopApplied := false,
                          loopTick := none, refTicks := [], largeTick := none, mains := none, mainsRho := 0, grove := none, lysef := none, wakeStart := tk }
      pw := { t.pw with gladeLost := false } } 0x3003

/-- Alarm flags the glade domain has held are raised into the core again (R119, R457). -/
def raiseHeldAlarms (s : State) : State := [1, 2].foldl (fun t a => if getBit t Obj.AlarmFlags (a - 1) then fireAlarm t a else t) s

/-- The stage of a start that reads the store (R32, R33, R222 to R224, R263): registers of the arbiters, replay, and what the dusk record carries; a collection
that a power loss cut is refused (R666); a `LysefNew` that the bus has set stands (R509); then the alarms (R119). `chip`: the start ends a chip reset (R49,
R460). -/
def startCore (s : State) (f : FlashFaults) (vbat chip : Bool) : State :=
  let keep := s.pw.sram
  let t := { startGlade s with
    clk := { (startGlade s).clk with cclk := .rc }
    front := { s.front with seq := 0 }
    tdc := { s.tdc with seq := 0 } }
  let u := endCollect (pathFactors (restoreKept (restoreTime (keepGlade s chip (replay t f keep vbat))))) 6
  let v := if s.pw.bus ∧ obj s Obj.LysefNew = 1 then setObj u Obj.LysefNew 1 else u
  raiseHeldAlarms { v with pw := { v.pw with sram := true, storeOpen := true } }

/-- Frame counters at a restart (R574, R615): transmit at the larger of the journalled and the dusk value plus 256, receive floor at the journalled value plus
256, every neighbour in resync; in the read-only stage without a dusk record the jump is 2²⁴. -/
def jumpCounters (s : State) : State :=
  let dusk := s.flash.dusk.map (fun d => d.txCounter)
  let jump := if dusk.isNone ∧ obj s Obj.StoreStage = 2 then 2 ^ 24 else 256
  let f : Nbr → Nbr := fun n =>
    let floor := min 0xFFFFFFFF (n.rxSaved + jump)
    { n with tx := min 0xFFFFFFFF (max n.txSaved (dusk.getD 0) + jump), rx := floor - 1, floor := floor, resync := true, out := none, frag := none }
  { s with radio := { s.radio with
    nbrs := s.radio.nbrs.map (fun e => (e.1, f e.2)), compatCounter := max s.radio.compatSaved (dusk.getD 0) + jump } }

/-- The acoustic loops after a start (R323, R324): restored state, every enabled path in acquisition. -/
def startLoops (s : State) : State :=
  let t := match s.flash.dusk, s.flash.noonAcou with
    | none, some (l, tm, c) => { s with acou := { s.acou with loops := l, template := tm, captured := c } }
    | _, _ => s
  (enabledPaths t).foldl acquire t

/-- Step 5 in full mode (R357, R387, R427, R473, R476, R513, R531, R616, R642): what starts with the measure and radio domains. -/
def startFull (s : State) (gladeLost : Bool) : State :=
  let t := { s with pw := { s.pw with mode := .full }, tally := { s.tally with
    journalUptime := none, intervalStart := some (localSecs s), intervalPartial := true, sinceLatch := 0
    noonHold := if (obj s Obj.NoonPassTime : Int) ≤ localMinute s then some ((localDay s).toNat, ticks s) else none } }
  let u := jumpCounters (startLoops (setCharger t))
  let v := if gladeLost then
      let a := loseAll u 3
      if isCrown a then { a with radio := { a.radio with epoch := ticks a } } else a
    else u
  let w := if v.code = .le ∧ obj v Obj.ElecEnable = 1 then
      { v with elec := { v.elec with noLineSince := some (ticks v), blockOpen := false }, clk := { v.clk with mclk := true } }
    else v
  let x := if w.code = .le then setMany w [(Obj.CurrentGain 1, 1), (Obj.CurrentGain 2, 1)] else w
  let y := startMaster (deferredBoundaries ([1, 2, 3].foldl startOut x))
  startConversion { y with temp := { y.temp with firstDue := true } }

/-- Step 4 of Table 03.8: the coulomb count (R95), a swap, the dusk record's events (R93, R403, R422: the duration from the
time to the dusk save at `NominalFrequency`, the extreme a free value: log entry 37), the interrupted collection (R666). -/
def compareDusk (s : State) (off : Nat) : State :=
  let t := match s.flash.dusk with
    | none =>
      let a := setObj s Obj.ChargeUsed (max s.pw.chargeSnap (obj s Obj.ChargeUsed))
      if s.pw.down then raise a 0x1108 (pl 4 (uptime s - s.tally.latchUptime)) else a
    | some d =>
      let a := raise (setObj s Obj.ChargeUsed (max (max s.pw.chargeSnap d.charge) (obj s Obj.ChargeUsed))) 0x1101
      match d.excursion with
      | none => a
      | some x =>
        let (e, b) := draw a
        let n := d.tk / 2 ^ 33 - x.tick
        let halves := max 1 (n * 2 * obj s Obj.NominalFrequency / 32768)
        voltageEvent b x (if halves ≤ 65535 then halves else 2 ^ 31 + n / 32768 % 2 ^ 31) (e % 2 ^ 32)
  if 1 ≤ off then raise (commitObjs t [(Obj.BatterySwapPending, 1)]).2 0x1103 else t

/-- Steps 4 and 5 with VBAT (Table 03.8). -/
def openCore (s : State) (off : Nat) (gladeLost : Bool) : State :=
  let t := compareDusk s off
  let u := if t.pw.transportSet then { t with pw := { t.pw with mode := .transport } } else startFull t gladeLost
  let v := freeDusk u
  { v with pw := { v.pw with down := false, hold := false, offSecs := 0, storeOpen := true } }

/-- Is the core down for want of a source? -/
def unpowered (s : State) : Bool := decide (s.pw.mode = .off) || decide (s.pw.mode = .backup) || decide (s.pw.mode = .duskHold)

/-- Is the part held in chip reset, or by TEST after it (R48, R60)? A source that becomes valid then waits for the reset's end. -/
def heldInReset (s : State) : Bool := decide (s.pw.mode = .chipReset) || decide (s.pw.mode = .testHold)

/-- BATTERY_INSERTION (Table 03.8, R90): VBAT rises above VBATON. -/
def execBatteryInsertion (offSeconds : Nat) (faults : FlashFaults) (s : State) : Res :=
  when (!s.pw.vbat && (unpowered s || heldInReset s)) s (fun s =>
    if heldInReset s then startGlade { s with pw := { s.pw with vbat := true, offSecs := offSeconds } }
    else
      let lost := s.pw.gladeLost
      let t := startCore { s with pw := { s.pw with vbat := true, mode := .transport } } faults true false
      openCore t offSeconds lost)

/-- VBAT_VALID_IN_READOUT (R91): only the deferred work of the replay, then steps 4 and 5. -/
def execVbatValidInReadout (offSeconds : Nat) (s : State) : Res :=
  when (decide (s.pw.mode = .readout)) s (fun s =>
    let t := reEraseAll { s with pw := { s.pw with vbat := true, mode := .transport } }
    openCore (if t.flash.checkpointDue ∨ 75 ≤ journalFill t then checkpoint t else t) offSeconds false)

/-- START_FROM_BUS_OR_FIELD (Table 03.7, R33): glade and core only, replay by reads only, readout mode. -/
def execStartFromBusOrField (bus field : Bool) (vnfcMv : Nat) (faults : FlashFaults) (s : State) : Res :=
  when ((bus || field) && !s.pw.vbat && (unpowered s || heldInReset s)) s (fun s =>
    let t := if bus then busUp s else s
    let u := if field then fieldUp t else t
    let v := { u with pw := { u.pw with vnfc := vnfcMv } }
    if heldInReset s then startGlade v else startCore { v with pw := { v.pw with mode := .readout } } faults false false)

/-! ### Chip reset, VIO -/

/-- CHIP_RESET: nRST low for 1 µs or longer (R48, R49, R58, R119, R120, R263), in every mode in which the part is powered; VIO lost makes nRST read high (R59).
Every crossing is reset, a set or step on its way to the glade domain with it (R18, R119). The accumulators, of the core's domains, are cleared (log
entry 36). -/
def execChipReset (s : State) : Res :=
  when (s.ports.vioOk && decide (s.pw.mode ≠ .off) && decide (s.pw.mode ≠ .chipReset)) s (fun s =>
    let t := [Port.spi, .lysef, .vicinity].foldl resetPort s
    let u := cutWriter (endCore (haltCore (endCollect t 6)))
    { u with
      pw := { u.pw with mode := .chipReset, transportSet := u.pw.transportSet || u.pw.transportArmed, transportArmed := false, replayed := false }
      rtc := { u.rtc with pendSet := none }
      ports := { u.ports with tags := [], out := [], heldOrder := 0 }
      front := { u.front with seq := 0 }
      tdc := { u.tdc with seq := 0 }
      tally := { u.tally with fifo := [], postponed := none, sinceLatch := 0 }
      accs := .zero })

/-- A chip reset ends (R48, R60): the core starts, replays, and runs as its sources and transport mode say; without a source for the core the part is back in
dusk hold or backup mode (Table 03.3). TEST high with the seal not set holds the part. -/
def releaseReset (testHigh : Bool) (faults : FlashFaults) (s : State) : State :=
  if testHigh ∧ obj s Obj.SealState ≠ 1 then { s with pw := { s.pw with mode := .testHold } }
  else if !s.pw.vbat && !s.pw.bus && !s.pw.field then { s with pw := { s.pw with mode := if s.pw.hold then .duskHold else .backup } }
  else
    let lost := s.pw.gladeLost
    let t := startCore { s with pw := { s.pw with mode := if s.pw.vbat then .transport else .readout } } faults s.pw.vbat true
    let u := if testHigh then raise t 0x1030 else t
    if u.pw.vbat then openCore u u.pw.offSecs lost else u

/-- CHIP_RESET_RELEASE: the rising edge of nRST (R48). -/
def execChipResetRelease (testHigh : Bool) (faults : FlashFaults) (s : State) : Res :=
  when (decide (s.pw.mode = .chipReset)) s (releaseReset testHigh faults)

/-- VIO_RESTORED (R59): the output pads serve their pulses again. -/
def execVioRestored (s : State) : Res :=
  when (!s.ports.vioOk) s fun s =>
    let t := { s with ports := { s.ports with vioOk := true } }
    [1, 2, 3].foldl (fun u o => if (outSt u o).pulsing then driveOut u o true else startOut u o) t

/-! ### Battery, transport, budget, core voltage -/

/-- BATTERY_LOW (R81): transmission stops, logged once per crossing. -/
def execBatteryLow (s : State) : Res :=
  when (coreUp s && s.pw.vbat && !s.pw.low) s (fun s =>
    raise (objBit { s with pw := { s.pw with low := true } } Obj.RadioStatus 3 true) 0x1102)

/-- `LeaveTransport` (R68), over any route: transport mode ends, the boundaries are set anew (R473), and leaving for the first time sets
`BatteryInstalledTime`; with VBAT valid, steps 4 and 5 of Table 03.8 follow, and without it they follow when VBAT becomes valid (R91). Where transport mode is
not set there is none to leave; one that `EnterTransport` has armed is then cancelled (DESIGN CHOICE, log entry 76). -/
def leaveTransportNow (s : State) : State :=
  if !s.pw.transportSet then { s with pw := { s.pw with transportArmed := false } }
  else
    let t := raise { s with pw := { s.pw with transportSet := false, transportArmed := false, leftOnce := true }, tally := { s.tally with boundaryInit := false },
                            radio := { s.radio with window := false, installReady := false } } 0x1107
    let u := if s.pw.leftOnce then t else (commitObjs t [(Obj.BatteryInstalledTime, t48 t)]).2
    if s.pw.mode = .transport then openCore u 0 false else u

/-- `EnterTransport`: transport mode from the next dusk hold or reset (Table 03.9). -/
def armTransport (s : State) : State := { s with pw := { s.pw with transportArmed := true } }

/-- `BatteryReplaced` (R96). -/
def replaceBattery (s : State) (mAh : Nat) : Nat × State :=
  let (n, t) := commitObjs s [(Obj.ChargeLifetime, (obj s Obj.ChargeLifetime + obj s Obj.ChargeUsed) % 2 ^ 64), (Obj.ChargeUsed, 0),
    (Obj.BatteryCapacity, mAh), (Obj.BatteryInstalledTime, t48 s), (Obj.BatterySwapPending, 0), (Obj.BudgetBucket, 0)]
  (n, raise { t with pw := { t.pw with chargeSnap := 0, budgetBelow := false } } 0x1104)

/-- `AllowedAverageCurrent` (Table 03.4), nA. Whole days since `BatteryInstalledTime` count (DESIGN CHOICE, log entry 77). -/
def allowedCurrent (s : State) : Nat :=
  let remaining : Int := (obj s Obj.BatteryCapacity * 1000 * obj s Obj.UsableFraction : Nat) - (obj s Obj.ChargeUsed : Int)
  let days : Int := ((binSecs s : Int) - (obj s Obj.BatteryInstalledTime / 65536 : Nat)) / 86400
  let hours : Int := ((obj s Obj.TargetLifetime : Int) - days) * 24
  if remaining ≤ 0 ∨ hours ≤ 0 then 0 else (remaining / hours).toNat

/-- BUDGET_HOUR (R75): the allowance goes into the bucket up to its cap, the snapshot is refreshed. `AverageCurrent24h` is the charge of the last 24 recorded
hours over 24 h, also while fewer are recorded (DESIGN CHOICE, log entry 78). -/
def execBudgetHour (s : State) : Res :=
  when (coreUp s) s (fun s =>
    let a := allowedCurrent s
    let b := min (objI 4 s Obj.BudgetBucket + a) (obj s Obj.BudgetBucketMax)
    let days := (s.pw.dayCharges ++ [s.pw.hourCharge]).reverse.take 24 |>.reverse
    let t := setMany s [(Obj.AllowedAverageCurrent, fitN 4 47 a), (Obj.BudgetBucket, fitI 4 45 b), (Obj.AverageCurrent24h, fitN 4 49 (days.sum / 24 : Nat))]
    let u := { t with pw := { t.pw with chargeSnap := obj t Obj.ChargeUsed, dayCharges := days, hourCharge := 0, budgetBelow := t.pw.budgetBelow && decide (b < 0) } }
    recheck (if 0 < b then clrErr u 13 else u))

/-- BUDGET_SECOND (R74, R76, R77, R97): the charge counted, nAh; and VNFC, mV, which charging and use of the reserve have moved since (R65, R83;
DESIGN CHOICE, log entry 79). -/
def execBudgetSecond (charge : Nat) (s : State) (vnfc : Nat := 0) : Res :=
  when (coreUp s) s (fun s =>
    let b := objI 4 s Obj.BudgetBucket - charge
    let t := setMany s [(Obj.ChargeUsed, (obj s Obj.ChargeUsed + charge) % 2 ^ 64), (Obj.BudgetBucket, fitI 4 46 b)]
    let u := { t with pw := { t.pw with hourCharge := t.pw.hourCharge + charge, budgetBelow := decide (b < 0), vnfc := vnfc } }
    if b < 0 ∧ !s.pw.budgetBelow then raise u 0x1105 else u)

/-- VCORE_CANARY_TEST (R72, R73): `lowestPassing` is the lowest set point at which the canary passes now, mV. The run of passes is kept across a stop of the
core (DESIGN CHOICE, log entry 80). -/
def execVcoreCanaryTest (lowestPassing : Nat) (s : State) : Res :=
  when (coreUp s) s (fun s =>
    let v := obj s Obj.VcoreSetting
    if 900 < lowestPassing then
      raise (setMany { s with pw := { s.pw with canaryRun := 0 } } [(Obj.VcoreSetting, 900), (Obj.VcoreHeadroom, 0)]) 0x1106
    else
      let raised := v + 10 * ceilDiv (lowestPassing - v) 10
      let run := if raised = v then s.pw.canaryRun + 1 else 1
      let t := setObj s Obj.VcoreHeadroom (900 - raised)
      if 8 ≤ run then setObj { t with pw := { t.pw with canaryRun := 0 } } Obj.VcoreSetting (max 700 (raised - 10))
      else setObj { t with pw := { t.pw with canaryRun := run } } Obj.VcoreSetting raised)

end Sys2Proof.Machine
end

