-- ==== Sys2Proof/Machine/Noon.lean ====
section
/-! DEFINITION. The margin summary of the repair agent (chapter 19) and the noon pass (chapter 14). -/

namespace Sys2Proof.Machine

/-- `MarginSummary` (Table 19.2). -/
def marginSummary (s : State) : Nat :=
  let standbys := ([3, 4].filter (fun r => (portOf s r).isSome)).length
  (if obj s Obj.SramSpareRows = 0 then 1 else 0) + (if obj s Obj.WearMargin = 0 then 2 else 0) + (if obj s Obj.TdcMargin = 0 then 4 else 0)
    + (if pathsHealthy s < (enabledPaths s).length then 8 else 0) + (if standbyReady s < standbys then 16 else 0)
    + (if lfMargin s < 2 + obj s Obj.Xl2Fitted then 32 else 0) + (if obj s Obj.VcoreHeadroom < 20 then 64 else 0)
    + (if obj s Obj.PathInService ≠ 0 then 128 else 0)

/-- Set `MarginSummary` and log each bit that changes (R644, R645). -/
def updateMargins (s : State) : State :=
  let old := obj s Obj.MarginSummary
  let new := marginSummary s
  (List.range 8).foldl (fun t i =>
    if bitOf old i = bitOf new i then t else raise t (if bitOf new i then 0x6001 else 0x6002) [i]) (setObj s Obj.MarginSummary new)

/-- MARGIN_SUMMARY_UPDATE (R644, R645, R663). -/
def execMarginSummaryUpdate (s : State) : Res := when (coreUp s) s fun s => updateMargins (startCclk s)

/-- Does any work-pending flag stand (the list before R111)? Requests at the store front, journal writer tasks, tally latches, measurement work under way, MAC
tasks and the repair agent's task. A frame that waits in the transmit queue for its slot is no task until the slot, and a receiver that waits in a glance or a
window is none until it hears its frame. -/
def workPending (s : State) : Bool :=
  !s.front.waiting.isEmpty || s.front.xfer.isSome
    || s.flash.work.isSome || !s.flash.commits.isEmpty || !s.flash.unitRecs.isEmpty || !s.flash.erases.isEmpty || s.flash.checkpointDue
    || !s.tally.eventQ.isEmpty || !s.tally.snapsPending.isEmpty || !s.tally.intervalsPending.isEmpty
    || !s.tally.fifo.isEmpty || s.tally.postponed.isSome
    || s.acou.running || s.tdc.grant.isSome || !s.tdc.waiting.isEmpty || s.tdc.calibrating || s.tdc.fin.isSome || s.temp.conv.isSome || s.clk.hfMeasuring
    || !s.tdc.owed.isEmpty
    || s.radio.event.isSome || !s.radio.air.isEmpty || s.radio.lbt.isSome || s.radio.scan.isSome || s.radio.join.isSome
    || decide (marginSummary s ≠ obj s Obj.MarginSummary)

/-- CCLK stops 16 cycles after the last work-pending flag clears (R113), and the wake ends, with it the hold of R129; MCLK keeps running while the electricity
channel is on (R388). -/
def execCclkStop (s : State) : Res :=
  when (decide (s.clk.cclk ≠ .stopped) && !workPending s) s fun s =>
    let m := s.clk.mclk && decide (s.code = .le) && decide (obj s Obj.ElecEnable = 1) && isFull s
    { s with
      clk := { s.clk with cclk := .stopped, mclk := m }
      pw := { s.pw with hfFailed := false }
      tdc := { s.tdc with batch := s.tdc.batch && m } }

/-- Write every snapshot and log entry still pending (Table 14.8 step 6), n appends at most. -/
def drainLogs (n : Nat) (s : State) : State :=
  match n with
  | 0 => s
  | k + 1 => match logOne s with
    | some t => drainLogs k t
    | none => s

/-- The acoustic state journalled at noon (R324), `RxGain` and `PathStatus` with the loops and the captured template, and the offsets (R357). -/
def journalAcoustic (s : State) : State :=
  let t := (journal s ([1, 2, 3, 4].flatMap (fun p => [(Obj.RxGain p, obj s (Obj.RxGain p)), (Obj.PathStatus p, obj s (Obj.PathStatus p)),
    (Obj.ZeroOffset p, obj s (Obj.ZeroOffset p))]))).2
  { t with flash := { t.flash with noonAcou := some (t.acou.loops, t.acou.template, t.acou.captured) } }

/-- May the noon pass of the local date run (R483): its time is reached, it has not run, and 64 s have passed since full mode began where the time passed
before that? -/
def noonDue (s : State) : Bool :=
  let day := (localDay s).toNat
  isFull s && !s.tally.noonDates.contains day && decide ((obj s Obj.NoonPassTime : Int) ≤ localMinute s) &&
    match s.tally.noonHold with
    | none => true
    | some (d, t) => decide (d ≠ day) || decide (t + 64 * 32768 ≤ ticks s)

/-- NOON_PASS (R483, Table 14.8): once per local date, in full mode; a transducer check that meets a running cycle follows the cycle (R316). -/
def execNoonPass (rise : List RiseTimes) (s : State) : Res :=
  when (noonDue s) s (fun s =>
    let t := { s with pads := { s.pads with rise := rise }, tally := { s.tally with noonDates := (localDay s).toNat :: s.tally.noonDates } }
    let c := if t.acou.running then armPathCheck (startCclk t) else checkPaths (startCclk t)
    let u := startWatch (lfAgeing (hfAgeing c))
    let w := sealCheck (updateMargins (startHf u))
    let x := journalAcoustic (checkpoint (wearMove (scrub w)))
    let n := x.tally.eventQ.length + x.tally.snapsPending.length + x.tally.intervalsPending.length + 2
    setObj (drainLogs n x) Obj.LastNoonPass (t48 x))

end Sys2Proof.Machine
end

