-- ==== Sys2Proof/Machine/Operands.lean ====
section
/-! DEFINITION. What a READ of each object gives (R138, R160): which objects exist on the ordering code, and the objects whose value the part works out
when they are read. -/

namespace Sys2Proof.Machine

/-- What an index and sub-index address (R132, R133, R6): an object of the dictionary, a sub-index 00 that reads the highest sub-index present, the factory
range, or nothing. -/
inductive Found where
  | obj (d : ObjDef)
  | count (highest : Nat)
  | factory
  | noObject
  | noSub
deriving DecidableEq, Repr

/-- Look an object up (R132, R133, R6, Table 05.7). -/
def lookup (c : OrderCode) (index sub : Nat) : Found :=
  if 0xF000 ≤ index then .factory
  else
    match dictionary.filter (fun d => d.index == index && d.avail.present c) with
    | [] => .noObject
    | rows =>
      match rows.find? (fun d => decide (d.lo ≤ sub) && decide (sub ≤ d.hi)) with
      | some d => .obj d
      | none => if sub = 0 then .count ((rows.map (·.hi)).foldl max 0) else .noSub

/-- What a READ gives: a status of Table 05.5, the object's bytes (all of them), the state after. -/
abbrev Value := Nat × List Byte × State

/-- A value that reading does not change. -/
def shows (s : State) (b : List Byte) : Value := (stOk, b, s)

/-- A U8, U16, U32 or U64. -/
def showsN (s : State) (n v : Nat) : Value := (stOk, bytesOf n v, s)

/-- `OrderingCode` (Table 00.1): ASCII, then 0x00. -/
def orderBytes (c : OrderCode) : List Byte :=
  match c with
  | .lq => [0x58, 0x51, 0x34, 0x30, 0x2D, 0x4C, 0x51, 0x00]
  | .gs => [0x58, 0x51, 0x34, 0x30, 0x2D, 0x47, 0x53, 0x00]
  | .le => [0x58, 0x51, 0x34, 0x30, 0x2D, 0x4C, 0x45, 0x00]

/-- `OptionFuses` (Tables 00.1, 00.2). -/
def optionFuses (c : OrderCode) : Nat :=
  match c with
  | .lq => 0x05
  | .gs => 0x02
  | .le => 0x1D

/-- `ActiveRoles` (0x1010, Table 01.4): METER and the radio roles in full mode, one Lysef role, READOUT. -/
def activeRoles (s : State) : Nat :=
  (if isFull s then 1 else 0) + (if isFull s && isStem s then 2 else 0) + (if isFull s && isCrown s then 4 else 0)
    + (if s.lm.running then 16 else 8) + (if s.pw.mode = .readout then 32 else 0)

/-- `VicinityUid` (R543). -/
def vicinityUid (s : State) : Nat := 0xE0 * 2 ^ 56 + obj s Obj.IcManufacturerCode * 2 ^ 48 + obj s Obj.DeviceIdentity % 2 ^ 48

/-- `LatchedRegisters` (Table 14.2, R467): every register present, bytes 4 to 7 zero. -/
def latchedBytes (s : State) : List Byte :=
  let regs := allRegs s
  padTo 240 0 (bytesOf 4 (obj s Obj.LatchSequence) ++ bytesOf 4 0 ++ bytesOf 4 (maskOf (regs.map (·.1))) ++ bytesOf 4 s.tally.latchUptime ++ regBytes regs)

/-- A snapshot as read (Table 14.4). -/
def snapshotRecord (x : Snapshot) : List Byte :=
  padTo 256 0 (bytesOf 4 x.id ++ bytesOf 1 x.flags ++ bytesOf 3 0 ++ bytesOf 8 x.time ++ bytesOf 4 x.uptime ++ bytesOf 4 x.seq
    ++ bytesOf 4 (maskOf (x.regs.map (·.1))) ++ bytesOf 4 0 ++ regBytes x.regs)

/-- A log entry or snapshot fails its ECC (R491): logged, and counted under R219. -/
def corruptRead (s : State) : State := raise (bump s Obj.UncorrectableReads) 0x3103

/-- Words of a unit have been corrected on a read (R218): each is counted, and once in the unit's count of corrected words. -/
def correctWords (s : State) (u words : Nat) (counted : Bool) : State :=
  let t := setObj s Obj.CorrectedReads ((obj s Obj.CorrectedReads + words) % 2 ^ 32)
  if counted then t else setUnit t u { unit t u with corrected := (unit t u).corrected + words }

/-- Single-bit errors that have been read are in their unit's count. -/
def Ecc.seen (e : Ecc) : Ecc :=
  match e with
  | .weak n _ => .weak n true
  | _ => e

/-- Read one snapshot: corrected (R218), or zeros with its event (R491). -/
def readSnapshot (s : State) (x : Snapshot) : List Byte × State :=
  match x.ecc with
  | .good => (snapshotRecord x, s)
  | .weak n c =>
    let t := correctWords s x.unit n c
    let mark := fun (y : Snapshot) => if y.id = x.id then { y with ecc := y.ecc.seen } else y
    (snapshotRecord x, { t with tally := { t.tally with daily := t.tally.daily.map mark, monthly := t.tally.monthly.map mark } })
  | .bad => (List.replicate 256 0, corruptRead s)

/-- `BillingRecord` (R491, Table 14.10): the snapshot `BillingSelect` names. -/
def billingRecord (s : State) : Value :=
  match (s.tally.daily ++ s.tally.monthly).find? (fun x => x.id = obj s Obj.BillingSelect) with
  | none => (stRange, [], s)
  | some x => let (b, t) := readSnapshot s x; (stOk, b, t)

/-- An interval entry (Table 14.5). -/
def intervalEntry (x : Interval) : List Byte :=
  bytesOf 6 x.secs ++ bytesOf 1 x.flags ++ bytesOf 1 x.values.length ++ bytesOf 4 x.uptime ++ bytesOf 4 x.seq ++ x.values.flatMap (bytesOf 8)

/-- The entries, in number order, that fit whole into a window. -/
def fitEntries (room : Nat) (l : List Interval) : List Interval :=
  match l with
  | [] => []
  | x :: t => if (intervalEntry x).length ≤ room then x :: fitEntries (room - (intervalEntry x).length) t else []

/-- Read one interval entry: corrected (R218); an uncorrectable one, which has neither code nor identifier, reads as zeros (R491; log entry 88). -/
def readInterval (s : State) (x : Interval) : List Byte × State :=
  match x.ecc with
  | .good => (intervalEntry x, s)
  | .weak n c =>
    let t := correctWords s x.unit n c
    (intervalEntry x, { t with tally := { t.tally with
      intervals := t.tally.intervals.map (fun y => if y.number = x.number then { y with ecc := y.ecc.seen } else y) } })
  | .bad => (List.replicate (intervalEntry x).length 0, corruptRead s)

/-- `IntervalWindow` (Table 14.10): as many whole entries as fit (log entry 38). -/
def intervalWindow (s : State) : Value :=
  if obj s Obj.IntervalSelect < obj s Obj.IntervalOldest then (stRange, [], s)
  else
    let (b, t) := (fitEntries 240 (s.tally.intervals.filter (fun x => obj s Obj.IntervalSelect ≤ x.number))).foldl (fun (a : List Byte × State) x =>
      let (y, u) := readInterval a.2 x; (a.1 ++ y, u)) ([], s)
    (stOk, padTo 240 0 b, t)

/-- An event entry (Table 14.6). -/
def eventEntry (e : LogEntry) : List Byte :=
  bytesOf 2 e.ev.code ++ bytesOf 1 e.ev.payload.length ++ bytesOf 1 0 ++ bytesOf 8 e.ev.time ++ bytesOf 4 e.uptime
    ++ padTo 8 0 (e.ev.payload.map (BitVec.ofNat 8))

/-- Read one log entry: single-bit errors are corrected and counted (R218), an uncorrectable entry reads 0xFFFF and zeros (R491). -/
def readEntry (s : State) (e : LogEntry) : List Byte × State :=
  match e.ecc with
  | .good => (eventEntry e, s)
  | .weak n c =>
    let t := correctWords s e.unit n c
    (eventEntry e, { t with tally := { t.tally with log := t.tally.log.map (fun y => if y.number = e.number then { y with ecc := y.ecc.seen } else y) } })
  | .bad => (bytesOf 2 0xFFFF ++ List.replicate 22 0, corruptRead s)

/-- `EventWindow` (R480): ten slots from `EventSelect`. -/
def eventWindow (s : State) : Value :=
  let n := obj s Obj.EventSelect
  if n < obj s Obj.EventOldest then (stRange, [], s)
  else
    let (b, t) := (List.range 10).foldl (fun (a : List Byte × State) i =>
      match s.tally.log.find? (fun e => e.number = n + i) with
      | none => (a.1 ++ List.replicate 24 0, a.2)
      | some e => let (x, u) := readEntry a.2 e; (a.1 ++ x, u)) ([], s)
    (stOk, b, t)

/-- Does a code appear in Table 14.7? -/
def errorCode (code : Nat) : Bool :=
  (errSetBy code).isSome || [0x2205, 0x2203, 0x2402, 0x2309, 0x2106, 0x3004, 0x2505, 0x2602].contains code

/-- `ErrorWindow` (R481): the next eight events of Table 14.7 from `ErrorSelect`, each with its number. -/
def errorWindow (s : State) : Value :=
  let l := (s.tally.log.filter (fun e => decide (obj s Obj.ErrorSelect ≤ e.number) && errorCode e.ev.code && decide (e.ecc ≠ .bad))).take 8
  let (b, t) := l.foldl (fun (a : List Byte × State) e => let (x, u) := readEntry a.2 e; (a.1 ++ bytesOf 4 e.number ++ x, u)) ([], s)
  (stOk, padTo 240 0 b, t)

/-- A READ of `AuthChallenge` (R143): 8 new random bytes, the route's only valid challenge. -/
def authChallenge (s : State) (r : Route) : Value :=
  let (v, t) := draw s
  let c := BitVec.ofNat 64 v
  (stOk, bytesOf 8 c.toNat, setSession t r { session t r with challenge := some c })

/-- `MailboxIn` (R632): the oldest frame waiting. -/
def mailboxBytes (s : State) : List Byte := padTo 240 0 (s.radio.inbox.headD [])

/-- The value of a readable object for a route: worked out for the objects the part derives, else the stored active value. -/
def readObj (s : State) (r : Route) (d : ObjDef) (index sub : Nat) : Value :=
  match index with
  | 0x1001 => shows s (orderBytes s.code)
  | 0x1002 => showsN s 4 (optionFuses s.code)
  | 0x1010 => showsN s 1 (activeRoles s)
  | 0x1018 => authChallenge s r
  | 0x101A => showsN s 1 (session s r).level
  | 0x1100 => showsN s 1 (powerMode s)
  | 0x1101 => showsN s 1 (activeSources s)
  | 0x1108 => showsN s 2 s.pw.vnfc
  | 0x110A => showsN s 2 (requiredMv (obj s Obj.ReserveCapacitance) 33)
  | 0x1200 => showsN s 1 s.clk.lf.num
  | 0x1201 => showsN s 1 (lfHealthBits s)
  | 0x1202 => showsN s 1 (lfMargin s)
  | 0x120E => showsN s 1 (min 255 (lfFails s (if sub = 1 then .xtal else if sub = 2 then .xl2 else .rc)))
  | 0x1220 => showsN s 1 (cclkSource s)
  | 0x2041 => shows s (padTo 80 0 s.tdc.snapshot)
  | 0x2113 => shows s (templateBytes s)
  | 0x2117 => showsN s 4 (actualFrequency (obj s Obj.CentreFrequency))
  | 0x2132 => showsN s 1 ((subs4.filter (fun p => decide (obj s (Obj.PathEnable p) = 1) && !getBit s (Obj.PathStatus p) 6)).length)
  | 0x2133 => shows s (sampleBytes s)
  | 0x2317 => showsN s 1 (standbyReady s)
  | 0x3000 => showsN s 8 (t48 s)
  | 0x3003 => showsN s 1 (rtcStatus s)
  | 0x3004 => showsN s 8 (ticks s)
  | 0x3008 => shows s (calendarBytes s)
  | 0x3104 => shows s (latchedBytes s)
  | 0x3105 => showsN s 4 (uptime s)
  | 0x3124 => billingRecord s
  | 0x3133 => intervalWindow s
  | 0x4004 => showsN s 4 (eraseMax s)
  | 0x4005 => showsN s 4 (eraseMean s)
  | 0x4006 => showsN s 1 (journalFill s)
  | 0x4030 => showsN s 4 (unit s (sub - 1)).count
  | 0x4110 => showsN s 1 (match Requester.list[sub - 1]? with
      | some q => tagsHeld s q
      | none => 0)
  | 0x4111 => showsN s 1 (sharedFree s)
  | 0x4117 => showsN s 1 (if (mfind s.ports.seqs sub).isSome then 1 else 0)
  | 0x501C => shows s (padTo 250 0 s.lm.result)
  | 0x5111 => showsN s 8 (vicinityUid s)
  | 0x5212 => showsN s 4 (airtimeUsed s sub)
  | 0x5224 => showsN s 1 (radioSca s)
  | 0x5314 => shows s (stemEntryBytes s (obj s Obj.StemSelect))
  | 0x5315 => shows s (stemSnapshotBytes s (obj s Obj.StemSelect))
  | 0x5321 => shows s (padTo 250 0 s.radio.result)
  | 0x5329 => shows s (mailboxBytes s)
  | 0x532B => showsN s 1 s.radio.inbox.length
  | 0x5330 => shows s (neighbourBytes s sub)
  | 0x7003 => eventWindow s
  | 0x700B => errorWindow s
  | _ => showsN s d.size (obj s (index * 256 + sub))

end Sys2Proof.Machine
end

