-- ==== Sys2Proof/Machine/Flags.lean ====
section
/-! DEFINITION. Status and flag words: the port status byte, and the writes that clear flags by writing ones. -/

namespace Sys2Proof.Machine

/-- Does a tag of a route hold a response ready for collection? -/
def holds (s : State) (r : Route) (tag : Nat) : Bool :=
  match mfind s.ports.tags (tagSlot r tag) with
  | some u => match u.phase with
    | .held _ _ => true
    | _ => false
  | none => false

/-- The port status byte an SPI transaction shows first (R534). -/
def portStatus (s : State) : Nat := 0x50 + (([0, 1, 2, 3].filter (holds s .spi)).map (fun t => 2 ^ t)).sum

/-- Bits of a flag word that a write of ones leaves. -/
def clearedBy (now ones : Nat) : Nat := now - Nat.land now ones

/-- A write of `IrqStatus` (R482): ones clear; bit [6] stays while the inbox is not empty (R632). -/
def clearIrq (s : State) (v : Nat) : State :=
  let t := setObj s Obj.IrqStatus (clearedBy (obj s Obj.IrqStatus) v)
  if s.radio.inbox = [] then t else irq t 6

/-- A write of `ErrorFlagsSticky` (R481): ones clear; a condition that still stands keeps no bit of its own here. -/
def clearSticky (s : State) (v : Nat) : State :=
  (commitObjs s [(Obj.ErrorFlagsSticky, clearedBy (obj s Obj.ErrorFlagsSticky) v)]).2

/-- A write of `AlarmFlags` (Table 13.6): ones clear. -/
def clearAlarms (s : State) (v : Nat) : State := setObj s Obj.AlarmFlags (clearedBy (obj s Obj.AlarmFlags) v)

end Sys2Proof.Machine
end

