-- ==== Sys2Proof/Machine/Access.lean ====
section
/-! DEFINITION. The dictionary access: the checks of Table 05.6 in their order, the actions of X objects, staging and COMMIT, tags and held responses
(chapters 05, 06, 07). -/

namespace Sys2Proof.Machine

/-! ### Values a write may carry -/

/-- Are n low BCD digits of v digits? -/
def bcdDigits (n v : Nat) : Bool := (List.range n).all (fun i => decide (v / 16 ^ i % 16 ≤ 9))

/-- Is a BCD byte between two values? -/
def bcdIn (b lo hi : Nat) : Bool :=
  match unBcd b with
  | none => false
  | some x => decide (lo ≤ x) && decide (x ≤ hi)

/-- An `AlarmSetting` the write accepts (R446): a mask of 0 ignores the other bytes. -/
def alarmOk (v : Nat) : Bool :=
  let b := (bytesOf 7 v).map BitVec.toNat
  let m := b[0]?.getD 0
  let at_ : Nat → Nat := fun i => b[i]?.getD 0
  decide (m < 64) && (!bitOf m 0 || bcdIn (at_ 5) 0 59) && (!bitOf m 1 || bcdIn (at_ 4) 0 59) && (!bitOf m 2 || bcdIn (at_ 3) 0 23)
    && (!bitOf m 3 || bcdIn (at_ 2) 1 31) && (!bitOf m 4 || bcdIn (at_ 1) 1 12) && (!bitOf m 5 || (decide (1 ≤ at_ 6) && decide (at_ 6 ≤ 7)))

/-- Start and end minute of a `TariffWindow` within the day (Table 14.10). -/
def windowOk (v : Nat) : Bool :=
  let w := bytesOf 5 v
  decide (natOf (w.take 2) ≤ 1439) && decide (natOf ((w.drop 2).take 2) ≤ 1439)

/-- Conditions on a written value beyond its object's range (R63, R8, R339, R446, Table 14.10, Table 17.19). -/
def valueOk (s : State) (key v : Nat) : Bool :=
  if key = Obj.VduskThreshold then decide (v < obj s Obj.VbatLowThreshold)
  else if key = Obj.VbatLowThreshold then decide (obj s Obj.VduskThreshold < v)
  else if key = Obj.CentreFrequency then frequencyFits s.code v
  else if key = Obj.LowFlowCutoff then decide (obj s Obj.ZeroAdaptFlow ≤ v)
  else if key = Obj.ZeroAdaptFlow then decide (v ≤ obj s Obj.LowFlowCutoff)
  else if key = Obj.WmbusId then bcdDigits 8 v
  else if key / 256 = 0x3010 then alarmOk v
  else if key / 256 = 0x3114 then windowOk v
  else true

/-! ### Commit objects (R140) -/

/-- `TariffQuantity` accepts registers 0x01 to 0x05 and 0x0A to 0x19 that are present (R469). -/
def tariffOk (s : State) : Bool :=
  subs4.all (fun t =>
    let q := objNext s (Obj.TariffQuantity t)
    (decide (q ≤ 5) || decide (0x0A ≤ q) && decide (q ≤ 0x19)) && regPresent s.code q && windowOk (objNext s (Obj.TariffWindow t)))

/-- Do a block's shadows lie in the ranges of its object table? -/
def shadowsOk (s : State) (b : Block) : Bool :=
  (s.shadow.filter (fun e => blockOf e.1 == some b)).all (fun e =>
    match rowOf e.1 with
    | some d => d.rng.holds (if d.signed then toInt d.size e.2 else e.2) && valueOk s e.1 e.2
    | none => true)

/-- The conditions a block's chapter attaches to its commit. -/
def blockOk (s : State) (b : Block) : Bool :=
  shadowsOk s b && (match b with
    | .acoustic => acousticOk s
    | .flow => flowOk s
    | .temperature => temperatureOk s
    | .heat => heatOk s
    | .elec => elecOk s
    | .pulse => pulseOk s
    | .tariff => tariffOk s
    | .arbiter => true
    | .radio => radioOk s)

/-- Move a block's shadows into its pending set; a set that still waits for its boundary is added to, the newer value of an object standing (DESIGN CHOICE, log
entry 85). -/
def moveShadows (s : State) (b : Block) : State :=
  let mine := s.shadow.filter (fun e => blockOf e.1 == some b)
  { s with
    shadow := s.shadow.filter (fun e => !(blockOf e.1 == some b))
    pend := mine.foldl (fun m e => mset m e.1 e.2) s.pend
    pendBlocks := s.pendBlocks.filter (· ≠ b) ++ [b] }

/-- Discard a block's shadows and its pending set. -/
def discardShadows (s : State) (b : Block) : State :=
  { s with
    shadow := s.shadow.filter (fun e => !(blockOf e.1 == some b))
    pend := s.pend.filter (fun e => !(blockOf e.1 == some b))
    pendBlocks := s.pendBlocks.filter (· ≠ b) }

/-- A commit object is written (R140); a `FlowCommit` ends a running zero calibration as failed (R353). -/
def commitBlock (s : State) (b : Block) (v : Nat) : Acted :=
  if v = 2 then done (discardShadows s b)
  else if !blockOk s b then refuse stRange s
  else
    let t := moveShadows s b
    done (if b = .flow && t.flow.zeroCal.isSome then zeroCalFailed t else t)

/-- The commit object of a block. -/
def commitKey (b : Block) : Nat :=
  match b with
  | .acoustic => Obj.AcousticCommit
  | .flow => Obj.FlowCommit
  | .temperature => Obj.TemperatureCommit
  | .heat => Obj.HeatCommit
  | .elec => Obj.ElecCommit
  | .pulse => Obj.PulseCommit
  | .tariff => Obj.TariffCommit
  | .arbiter => Obj.ArbiterCommit
  | .radio => Obj.RadioCommit

/-! ### Actions of X objects (R138) -/

/-- A set of binary time on its way (R435); an earlier one still on its way is applied first, so each WRITE is applied and logged (R452). -/
def setTime (s : State) (v cause : Nat) : State :=
  let t := match s.rtc.pendSet with
    | none => s
    | some (w, c) => applyStep s w c
  { t with rtc := { t.rtc with pendSet := some (v, cause) } }

/-- `CalendarSet` (R435, R436). -/
def calendarSet (s : State) (d : List Byte) : Acted :=
  match calendarSecs d with
  | none => refuse stRange s
  | some secs =>
    let bin : Int := secs - 900 * objI 1 s Obj.LocalOffset
    if bin < 0 then refuse stRange s else done (setTime s (bin.toNat * 65536) 2)

/-- `RtcTimeAdjust` (R438): a slew of the written milliseconds. -/
def timeAdjust (s : State) (ms : Int) : Acted :=
  if obj s Obj.SlewLimit < ms.natAbs then refuse stRange s
  else done { s with rtc := { s.rtc with slew := roundDiv (ms * 2 ^ 48) 1000 } }

/-- `TdcPairRetest` (R289). -/
def pairRetest (s : State) : State :=
  let l := [0, 1, 2].filter (fun p => decide (obj s (Obj.TdcPairState (p + 1)) = 2))
  { s with tdc := { s.tdc with retest := l.foldl (fun m p => mset m p 16) s.tdc.retest } }

/-- An action of the service chapter that may be refused with RANGE. -/
def orRange (s : State) (o : Option State) : Acted :=
  match o with
  | some t => done t
  | none => refuse stRange s

/-- `TransducerReplace` (R648 to R650). -/
def transducerReplace (s : State) (action p : Nat) : Acted :=
  if 3 < p then refuse stRange s
  else if action = 1 then orRange s (serviceBegin s p)
  else if action = 2 then orRange s (serviceComplete s p)
  else if action = 3 then orRange s (serviceCancel s p)
  else refuse stRange s

/-- Is a shadow of the temperature block pending? -/
def temperatureShadow (s : State) : Bool := (s.shadow ++ s.pend).any (fun e => blockOf e.1 == some .temperature)

/-- `SensorReplace` (R657). -/
def sensorReplace (s : State) (d : List Byte) : Acted :=
  let at_ : Nat → Nat → Nat := fun i n => natOf ((d.drop i).take n)
  let a := at_ 0 1
  let b := at_ 1 1
  let ra := obj s (Obj.PortRole (a + 1))
  let rb := obj s (Obj.PortRole (b + 1))
  let roles := (decide (min ra rb = 1) && decide (max ra rb = 2)) || (decide (min ra rb = 3) && decide (max ra rb = 4))
  let offset : Nat → Bool := fun i => decide ((toInt 2 (at_ i 2)).natAbs ≤ 500)
  let slope : Nat → Bool := fun i => decide ((toInt 4 (at_ i 4)).natAbs ≤ 2000)
  if a ≤ 3 ∧ b ≤ 3 ∧ roles && offset 2 && slope 4 && offset 8 && slope 10 && !temperatureShadow s then
    done { s with temp := { s.temp with sensorPend := some d } }
  else refuse stRange s

/-- `BatteryReplaced` (R96, R659). -/
def batteryReplaced (s : State) (mAh : Nat) : Acted :=
  if obj s Obj.BatterySwapPending = 0 then refuse stRange s else doneTxn (replaceBattery s mAh)

/-- `Seal` (R151, R152). -/
def sealAction (s : State) : Acted := if mShadow s then refuse stRange s else done (sealPart s)

/-- What writing or executing an X object does. -/
def action (s : State) (r : Route) (index : Nat) (d : List Byte) : Acted :=
  let v := natOf d
  match index with
  | 0x101B => done (endSession s r)
  | 0x1021 => sealAction s
  | 0x1022 => done (sealBreakPart s)
  | 0x1120 => done (leaveTransportNow s)
  | 0x1121 => done (armTransport s)
  | 0x1139 => batteryReplaced s v
  | 0x120B => done (clearLf s)
  | 0x2006 => done (pairRetest s)
  | 0x2040 => done (armSnapshot s v)
  | 0x2112 => done (armTemplate s)
  | 0x2114 => commitBlock s .acoustic v
  | 0x2130 => done (armSamples s v)
  | 0x2131 => done (armPathCheck s)
  | 0x221A => commitBlock s .flow v
  | 0x222D => done (startZeroCal s)
  | 0x230A => commitBlock s .temperature v
  | 0x2405 => commitBlock s .heat v
  | 0x2518 => commitBlock s .elec v
  | 0x251B => done (copResetPart s)
  | 0x2609 => commitBlock s .pulse v
  | 0x3001 => done (setTime s v 1)
  | 0x3002 => timeAdjust s (toInt 4 v)
  | 0x3009 => calendarSet s d
  | 0x3102 => done (latchNow s)
  | 0x3115 => commitBlock s .tariff v
  | 0x4103 => commitBlock s .arbiter v
  | 0x4130 => done (clearStats s)
  | 0x5012 => searchWritten s v
  | 0x501B => masterSend s d
  | 0x520B => commitBlock s .radio v
  | 0x5310 => admitStem s (natOf (d.take 8)) (natOf ((d.drop 8).take 16)) (natOf (d.drop 24))
  | 0x5311 => removeStem s v
  | 0x5312 => mapUpdate s (natOf (d.take 8)) (natOf (d.drop 8))
  | 0x5318 => connUpdated s r (natOf (d.take 8)) (natOf ((d.drop 8).take 1)) (natOf (d.drop 9))
  | 0x5320 => groveSendFrame s d
  | 0x5328 => mailOut s d
  | 0x532A => mailPop s
  | 0x6010 => transducerReplace s (natOf (d.take 1)) (natOf (d.drop 1))
  | 0x6018 => sensorReplace s d
  | _ => done s

/-! ### Stored values -/

/-- A WRITE of `LevelKey` (R148): stored, logged with the level, and a key whose record had failed works again (R186). -/
def writeKey (s : State) (level v : Nat) : State :=
  let t := (commitObjs s [(Obj.LevelKey level, v)]).2
  raise { t with ports := { t.ports with keyFaults := t.ports.keyFaults.filter (· ≠ level) } } 0x1012 [level]

/-- Store a value and journal it. -/
def storeObj (s : State) (key v : Nat) : State := (commitObjs s [(key, v)]).2

/-- `DailyBoundaryTime` or `BillingDay` has changed: boundaries count on from the present local time under the new setting. -/
def boundariesMoved (s : State) : State := { s with tally := { s.tally with boundaryLocal := localSecs s } }

/-- A WRITE of an RW or W object, with what its chapter makes of the new value. -/
def writeStored (s : State) (r : Route) (key v : Nat) : State :=
  match key with
  | 0x410000 => setFreeze s r v
  | 0x701100 => clearIrq s v
  | 0x700900 => clearSticky s v
  | 0x301100 => clearAlarms s v
  | 0x304000 => setObj s key v
  | 0x300A00 => changeOffset s v []
  | 0x301200 => let t := storeObj s key v; { t with rtc := { t.rtc with wakeStart := t.rtc.tk } }
  | 0x301800 => updateTrim (storeObj s key v)
  | 0x120300 => xl2Changed (storeObj s key v)
  | 0x111000 => setCharger (storeObj s key v)
  | 0x222C00 => clampZeros (storeObj s key v)
  | 0x312000 => boundariesMoved (storeObj s key v)
  | 0x312100 => boundariesMoved (storeObj s key v)
  | 0x500000 => setShortAddress (storeObj s key v) v
  | 0x501000 => masterEnabled (storeObj s key v) v
  | 0x501100 => cellRateChanged (storeObj s key v)
  | _ => if key / 256 = 0x101E then writeKey s (key % 256) v else storeObj s key v

/-- Carry one checked write or execution out: a status (RANGE, BUSY, STORE_FULL from an action's precondition) and the state. -/
def carryOut (s : State) (r : Route) (d : ObjDef) (key : Nat) (data : List Byte) : Nat × State :=
  match d.kind with
  | .x => let a := action s r (key / 256) data; (a.1, a.2.2)
  | .rwc => (stOk, { s with shadow := mset s.shadow key (natOf data) })
  | _ => (stOk, writeStored s r key (natOf data))

/-! ### Authentication (R142 to R147) -/

/-- The 18-byte message of R144. -/
def authMessage (s : State) (r : Route) (c : BitVec 64) (level : Nat) : List Nat :=
  pl 8 c.toNat ++ pl 8 (obj s Obj.DeviceIdentity) ++ [level, r.code]

/-- A failed response (R145, R147): level 0, counted by level, logged; the third within 600 s for one level locks the route out. -/
def authFail (s : State) (r : Route) (level : Nat) : State :=
  let x := session s r
  let now := ticks s
  let fails := (x.fails.filter (fun e => decide (now < e.2 + 600 * 32768))) ++ [(level, now)]
  let lock := decide (3 ≤ (fails.filter (fun e => decide (e.1 = level))).length)
  let t := setSession s r { x with level := 0, challenge := none, fails := fails, locked := lock }
  let k := Obj.AuthFailCount level
  let u := raise (storeObj t k ((obj t k + 1) % 2 ^ 32)) 0x1010
  if lock then raise u 0x1011 else u

/-- A WRITE of `AuthResponse` (R143 to R147, R186): status, response data, state. -/
def authRespond (s : State) (r : Route) (d : List Byte) : Nat × List Byte × State :=
  let level := natOf (d.take 1)
  let x := session s r
  let spent := setSession s r { x with challenge := none }
  if x.locked then (stDenied, [], spent)
  else if s.ports.keyFaults.contains level then (stFault, [3], raise (setObj spent Obj.LastFaultSubcode 3) 0x1015)
  else match x.challenge with
    | none => (stDenied, [], authFail s r level)
    | some c =>
      if natOf (d.drop 1) = Aes.cmac8 (obj s (Obj.LevelKey level)) (authMessage s r c level) then
        (stOk, bytesOf 4 0, setSession s r { x with level := level, challenge := none })
      else (stDenied, [], authFail s r level)

/-! ### Checks 7 to 13 -/

/-- Objects whose accesses act at once and are never staged (R178). -/
def actsAtOnce (index : Nat) : Bool := decide (index = 0x1018) || decide (index = 0x1019) || decide (index = 0x101B)

/-- Objects that carry a key (R149). -/
def carriesKey (index : Nat) : Bool := [0x101E, 0x5230, 0x5231, 0x5306, 0x5310].contains index

/-- Check 10 for a WRITE or EXEC: the level (R139, R154), and the routes R149, R155, R245 and R629 close. -/
def allowed (s : State) (r : Route) (d : ObjDef) (index : Nat) : Bool :=
  let level := (session s r).level
  let need := if d.m && decide (obj s Obj.SealState = 2) then 4 else d.level
  decide (need ≤ level) && !(carriesKey index && decide (r = .lysef))
    && !(decide (index = 0x1022) && !(decide (r = .spi) || decide (r = .vicinity)))
    && !(decide (index = 0x4100) && decide (obj s Obj.ArbiterFreeze ≠ 0) && decide (s.front.freezeBy ≠ some r) && decide (level < 4))
    && !(decide (index = 0x5318) && !(isStem s && decide (r = .grove 0)))

/-- Does a value of an object's size lie in its range, with the conditions of its chapter? -/
def inRange (s : State) (d : ObjDef) (key v : Nat) : Bool :=
  d.rng.holds (if d.signed then toInt d.size v else v) && valueOk s key v
    && !(decide (key = Obj.AuthResponse) && !(decide (1 ≤ v / 2 ^ 64) && decide (v / 2 ^ 64 ≤ 4)))

/-- The first failing check from 7 to 13 of a WRITE or EXEC, 0x00 when all pass, with the row. An X object's own precondition (check 13) is its action's
answer; BUSY and STORE_FULL belong to checks 15 and 16, and come from carrying the access out. -/
def writeCheck (s : State) (r : Route) (exec : Bool) (index sub : Nat) (data : List Byte) : Nat × Option ObjDef :=
  match lookup s.code index sub with
  | .noObject => (stNoObject, none)
  | .noSub => (stNoSub, none)
  | .factory => (stDenied, none)
  | .count _ => (if exec then stType else stReadOnly, none)
  | .obj d =>
    if d.kind = .r then (if exec then stType else stReadOnly, none)
    else if exec && decide (d.kind ≠ .x) then (stType, none)
    else if !allowed s r d index then (stDenied, none)
    else if d.m && decide (obj s Obj.SealState = 1) then (stSealed, none)
    else if data.length ≠ d.size then (stType, none)
    else if !inRange s d (index * 256 + sub) (natOf data) then (stRange, none)
    else if d.kind = .x then
      let st := (carryOut s r d (index * 256 + sub) data).1
      (if st = stBusy ∨ st = stFull then stOk else st, some d)
    else (stOk, some d)

/-! ### The store (check 16) -/

/-- Is a record one that waited before an access: for the writer, or for the end of a freeze (R244)? -/
def waitedBefore (s : State) (r : Rec) : Bool := (s.flash.commits ++ s.flash.heldRecs).contains r

/-- The journal records an access has queued: what `t` holds beside `s`. -/
def freshRecs (s t : State) : List Rec := t.flash.commits.filter (fun r => !waitedBefore s r)

/-- The journal records an access has queued, as one transaction (R175, R194): answers its number, 0 when nothing is journalled. A seal break among the
accesses waits for it (R156). -/
def oneTxn (s t : State) : Nat × State :=
  match freshRecs s t with
  | [] => (0, t)
  | r :: rest =>
    let es := (r :: rest).flatMap (fun x => match x.payload with
      | .data l => l
      | _ => [])
    let last := ((r :: rest).getLast?.map (·.txn)).getD r.txn
    let only := decide (r.txn = s.flash.nextTxn) && decide (t.flash.nextTxn = (last + 1) % 2 ^ 32)
    let n := if only then r.txn else last
    (n, { t with flash := { t.flash with
      commits := t.flash.commits.filter (waitedBefore s) ++ dataRecs n es
      nextTxn := if only then (n + 1) % 2 ^ 32 else t.flash.nextTxn
      breakTxn := if t.flash.breakTxn = s.flash.breakTxn then t.flash.breakTxn else some n } })

/-- In readout mode the records are programmed before anything is applied (R202 to R204), each on the energy of the reserve (R83): a status, and the state
with them. -/
def drain (s : State) (l : List Rec) : Nat × State :=
  match l with
  | [] => (stOk, { s with flash := { s.flash with commits := [] } })
  | r :: t =>
    if !energyFor s r then (stFault, s)
    else match programRec s r with
      | none => (stFull, s)
      | some u => drain (madeDurable (spendReserve u r) r) t

/-- Answer of an access that reaches the store: status, response data of a fault, transaction number, state. -/
abbrev Stored := Nat × List Byte × Nat × State

/-- STORE_FAULT with its sub-code (Table 06.6), nothing applied. -/
def storeFault (s : State) (sub : Nat) : Stored :=
  let t := setObj s Obj.LastFaultSubcode sub
  (stFault, bytesOf 1 sub, 0, if sub = 1 then bump t Obj.NoEnergyRefusals else t)

/-- Carry an access out through the store: applied with one transaction, or refused whole (R202 to R204, R211). -/
def storeRun (s : State) (f : State → Nat × State) : Stored :=
  let (st, t) := f s
  if st ≠ stOk then (st, [], 0, s)
  else if obj s Obj.StoreStage = 2 then
    if (freshRecs s (f (setObj s Obj.StoreStage 0)).2).isEmpty then (stOk, [], 0, t) else storeFault s 2
  else
    let (n, u) := oneTxn s t
    if s.pw.mode = .readout ∧ n ≠ 0 then
      match drain u u.flash.commits with
      | (0x00, v) => (stOk, [], n, v)
      | (0x32, _) => storeFault s 1
      | (e, _) => (e, [], 0, s)
    else (stOk, [], n, u)

/-! ### Staging and COMMIT (R170 to R183) -/

/-- Do accesses of an index go without a store grant (R244)? -/
def grantFree (write : Bool) (index : Nat) : Bool :=
  actsAtOnce index || decide (index = 0x4100) || decide (index = 0x4103) || !write && decide (0x4100 ≤ index) && decide (index ≤ 0x41FF)

/-- The image with a sequence's staged values, for the checks of later staged accesses (log entry 40); a staged `ArbiterFreeze` is the route's own (R245). -/
def overlay (s : State) (r : Route) (l : List Staged) : State :=
  l.foldl (fun t e => match rowOf e.key with
    | some d =>
      if d.kind = .x then t
      else if d.kind = .rwc then { t with shadow := mset t.shadow e.key (natOf e.data) }
      else if e.key = Obj.ArbiterFreeze then setFreeze t r (natOf e.data)
      else setObj t e.key (natOf e.data)
    | none => t) s

/-- Data bytes a sequence has staged (R174). -/
def stagedBytes (l : List Staged) : Nat := (l.map (fun e => e.data.length)).sum

/-- Payload bytes its transaction takes (Table 06.5, R205). -/
def stagedPayload (l : List Staged) : Nat := (l.map (fun e => e.data.length + 4)).sum

/-- Would one more staged access pass the limits of the sequence (R174, R205)? -/
def pastLimits (s : State) (l : List Staged) : Bool :=
  decide (32 < l.length) || decide (512 < stagedBytes l) || decide (s.pw.mode = .readout) && decide (264 < stagedPayload l)

/-- Check and apply staged accesses in order, each on what those before it left (R175, R181): a failing status with its key, else the state. -/
def applyStaged (s : State) (r : Route) (l : List Staged) : Nat × Nat × State :=
  match l with
  | [] => (stOk, 0, s)
  | e :: t =>
    match writeCheck s r e.exec (e.key / 256) (e.key % 256) e.data with
    | (0x00, some d) => match carryOut s r d e.key e.data with
      | (0x00, u) => applyStaged u r t
      | (st, _) => (st, e.key, s)
    | (st, _) => (st, e.key, s)

/-- A response to a frame. -/
def reply (f : Frame) (st : Nat) (data : List Byte) : Resp := ⟨st, f.tag.toNat, f.index.toNat, f.sub.toNat, data⟩

/-- A response, the transaction it may wait for (0: none), and the state. -/
abbrev Reply := Resp × Nat × State

/-- A refusal. -/
def deny (s : State) (f : Frame) (st : Nat) : Reply := (reply f st [], 0, s)

/-- Is the front frozen for a request that has no grant yet (R243)? A transfer in progress finishes (R242). -/
def heldBack (s : State) (granted : Bool) : Bool := frozen s && !granted

/-- COMMIT of a route's sequence (R175, R176, R257): a failing access closes it and is named; with BUSY, as with FROZEN, it stays open. -/
def commitSeq (s : State) (r : Route) (granted : Bool) (f : Frame) : Reply :=
  match seqOf s r with
  | none => deny s f stLockLost
  | some q =>
    let (st, k, _) := applyStaged s r q.staged
    if heldBack s granted && (decide (st = stOk) || decide (st = stBusy) || decide (st = stFull)) then deny s f stFrozen
    else if st = stOk then
      match storeRun s (fun t => let a := applyStaged t r q.staged; (a.1, a.2.2)) with
      | (0x00, _, n, t) => (reply f stOk (bytesOf 4 n), n, closeSlot t r.slot)
      | (e, b, _, t) => (reply f e b, 0, closeSlot t r.slot)
    else (⟨st, f.tag.toNat, k / 256, k % 256, []⟩, 0, if st = stBusy then s else closeSlot s r.slot)

/-- BEGIN (R170, R188, R242). -/
def beginSeq (s : State) (r : Route) (f : Frame) : Reply :=
  match mfind s.ports.seqs r.slot with
  | some q =>
    if q.owner = r then deny s f stRange
    else deny { s with front := { s.front with groveRefusal := some (ticks s) } } f stBusy
  | none =>
    if obj s Obj.ArbiterFreeze ≠ 0 then deny s f stFrozen
    else (reply f stOk [], 0, setSeq s r ⟨r, [], 0⟩)

/-- ABORT (R177); without an open sequence LOCK_LOST (log entry 43). -/
def abortSeq (s : State) (r : Route) (f : Frame) : Reply :=
  match seqOf s r with
  | none => deny s f stLockLost
  | some _ => (reply f stOk [], 0, closeSlot s r.slot)

/-- The value READ shows a route: its own staged value under LOCK, else the image's (R173). -/
def shownValue (s : State) (r : Route) (lock : Bool) (d : ObjDef) (index sub : Nat) : Value :=
  let staged := if lock then
      match seqOf s r with
      | some q => (q.staged.filter (fun e => decide (e.key = index * 256 + sub) && !e.exec)).getLast?
      | none => none
    else none
  match staged with
  | some e => shows s e.data
  | none => readObj s r d index sub

/-- Checks 7 to 10 of a READ or READ_NEXT, then the value. -/
def readValue (s : State) (r : Route) (lock : Bool) (index sub : Nat) : Value :=
  match lookup s.code index sub with
  | .noObject => (stNoObject, [], s)
  | .noSub => (stNoSub, [], s)
  | .factory => (stDenied, [], s)
  | .count n => showsN s 1 n
  | .obj d =>
    if d.kind = .w ∨ d.kind = .x then (stType, [], s)
    else if d.kind = .r ∧ (session s r).level < d.level then (stDenied, [], s)
    else shownValue s r lock d index sub

/-- READ from an offset (R160, R162): at most 240 bytes. -/
def readFrom (s : State) (r : Route) (granted : Bool) (f : Frame) (off : Nat) : Reply :=
  match readValue s r (f.flags.getLsbD 0) f.index.toNat f.sub.toNat with
  | (0x00, b, t) =>
    if b.length < off then deny s f stRange
    else if heldBack s granted && !grantFree false f.index.toNat then deny s f stFrozen
    else (reply f stOk ((b.drop off).take 240), 0, t)
  | (st, _, _) => deny s f st

/-- READ_NEXT: a U16 byte offset (Table 05.4); other data is TYPE after checks 7 to 10. Each READ_NEXT reads the object anew (R163), so one of `AuthChallenge`
draws a new challenge as a READ does (DESIGN CHOICE, log entry 86). -/
def readNext (s : State) (r : Route) (granted : Bool) (f : Frame) : Reply :=
  if f.data.length = 2 then readFrom s r granted f (natOf f.data)
  else match readValue s r (f.flags.getLsbD 0) f.index.toNat f.sub.toNat with
    | (0x00, _, _) => deny s f stType
    | (0x23, _, _) => deny s f stType
    | (st, _, _) => deny s f st

/-- A WRITE or EXEC at once: the arbiter, then the store. -/
def writeNow (s : State) (r : Route) (d : ObjDef) (granted : Bool) (f : Frame) : Reply :=
  if f.index.toNat = 0x1019 then
    let (st, b, t) := authRespond s r f.data
    (reply f st b, 0, t)
  else if heldBack s granted && !grantFree true f.index.toNat then deny s f stFrozen
  else match storeRun s (fun t => carryOut t r d (f.index.toNat * 256 + f.sub.toNat) f.data) with
    | (0x00, _, n, t) => (reply f stOk (bytesOf 4 n), n, t)
    | (st, b, _, t) => (reply f st b, 0, t)

/-- Stage an access (R172, R174); with LAST the sequence is then committed (R159). -/
def stage (s : State) (r : Route) (q : Seq) (exec granted : Bool) (f : Frame) : Reply :=
  let l := q.staged ++ [⟨exec, f.index.toNat * 256 + f.sub.toNat, f.data⟩]
  if pastLimits s l then deny s f stFull
  else if heldBack s granted && !grantFree true f.index.toNat then deny s f stFrozen
  else
    let t := setSeq s r { q with staged := l }
    if f.flags.getLsbD 1 then commitSeq t r granted f else (reply f stOk [], 0, t)

/-- WRITE or EXEC (R138, R160, R172). -/
def writeFrame (s : State) (r : Route) (exec granted : Bool) (f : Frame) : Reply :=
  match (if f.flags.getLsbD 0 && !actsAtOnce f.index.toNat then seqOf s r else none) with
  | some q =>
    match writeCheck (overlay s r q.staged) r exec f.index.toNat f.sub.toNat f.data with
    | (0x00, _) => stage s r q exec granted f
    | (st, _) => deny s f st
  | none =>
    match writeCheck s r exec f.index.toNat f.sub.toNat f.data with
    | (0x00, some d) => writeNow s r d granted f
    | (st, _) => deny s f st

/-- Checks 5 and 6 of an access to an object (R171, R178, R238). -/
def lockCheck (s : State) (r : Route) (f : Frame) : Nat :=
  if actsAtOnce f.index.toNat then stOk
  else if f.flags.getLsbD 0 && (seqOf s r).isNone then stLockLost
  else if !f.flags.getLsbD 0 && (seqOf s r).isSome then stFrame
  else stOk

/-- A request past check 4, carried out to its response. The FRAME of check 6 carries tag 0xFF (Table 05.3; log entry 42). -/
def performIn (s : State) (r : Route) (op : Op) (granted : Bool) (f : Frame) : Reply :=
  let inObject : Reply → Reply := fun x =>
    let c := lockCheck s r f
    if c = stFrame then (⟨stFrame, 0xFF, f.index.toNat, f.sub.toNat, []⟩, 0, s) else if c ≠ stOk then deny s f c else x
  match op with
  | .read => inObject (readFrom s r granted f 0)
  | .readNext => inObject (readNext s r granted f)
  | .write => inObject (writeFrame s r false granted f)
  | .exec => inObject (writeFrame s r true granted f)
  | .beginSeq => beginSeq s r f
  | .commit => commitSeq s r granted f
  | .abort => abortSeq s r f
  | .status => deny s f stOk
  | .nop => deny s f stOk

/-- Does a request use a store grant? -/
def needsGrant (op : Op) (f : Frame) : Bool :=
  match op with
  | .read => !grantFree false f.index.toNat
  | .readNext => !grantFree false f.index.toNat
  | .write => !grantFree true f.index.toNat
  | .exec => !grantFree true f.index.toNat
  | .commit => true
  | _ => false

/-- A request carried out; journal work of one served without a grant waits for the end of a freeze (R244). -/
def perform (s : State) (r : Route) (op : Op) (granted : Bool) (f : Frame) : Reply :=
  let (x, n, t) := performIn s r op granted f
  (x, n, if needsGrant op f then t else deferWork s t)

/-! ### Frames, tags and held responses (R157 to R169, R180) -/

/-- The opcode nibble (Table 05.4). -/
def opCode (o : Op) : Nat :=
  match o with
  | .read => 1
  | .write => 2
  | .readNext => 3
  | .beginSeq => 4
  | .commit => 5
  | .abort => 6
  | .exec => 7
  | .status => 8
  | .nop => 9

/-- The opcode nibble as it arrived: a reserved one, or the row's own (R165). -/
def opNibble (op : Op) (f : Frame) : Nat := (f.reservedOp.map BitVec.toNat).getD (opCode op)

/-- Bytes 0 to 5 + n of a request (Table 05.3). -/
def frameBytes (op : Op) (f : Frame) : List Byte :=
  bytesOf 1 (opNibble op f * 16 + f.flags.toNat) ++ [f.tag] ++ bytesOf 2 f.index.toNat ++ [f.sub, f.len] ++ f.data

/-- Check 2: the CRC of R158. -/
def crcGood (op : Op) (f : Frame) : Bool := decide (f.crc.toNat = crc16 (frameBytes op f))

/-- Check 3: the form of R165. -/
def formGood (op : Op) (f : Frame) : Bool :=
  let writes := decide (op = .write) || decide (op = .exec)
  f.reservedOp.isNone && decide (f.len.toNat ≤ 240) && decide (f.len.toNat = f.data.length) && !f.flags.getLsbD 3 && decide (f.tag.toNat ≤ 3)
    && (!f.flags.getLsbD 1 || writes && f.flags.getLsbD 0)

/-- A frame that fails the CRC or form check (R185), counted by its port (R503, R558). -/
def badFrame (s : State) (r : Route) (st : Nat) : State :=
  let t := match r with
    | .spi => bump s Obj.SpiFrameErrors
    | .vicinity => bump s Obj.VicinityFrameErrors
    | _ => s
  putOut t r ⟨st, 0xFF, 0, 0, []⟩

/-- A well-formed frame has arrived: the session's idle count starts again (R146), a LOCK frame restarts the LockLimit count (R237). -/
def touch (s : State) (r : Route) (f : Frame) : State :=
  let t := setSession s r { session s r with lastTick := ticks s }
  match seqOf t r with
  | some q => if f.flags.getLsbD 0 then setSeq t r { q with lockTicks := 0 } else t
  | none => t

/-- STATUS (R166, R169, R184): PENDING while the request runs, then the held response, which frees the tag. -/
def statusOf (s : State) (r : Route) (f : Frame) : State :=
  let slot := tagSlot r f.tag.toNat
  match mfind s.ports.tags slot with
  | none => putOut s r ⟨stOk, f.tag.toNat, 0, 0, []⟩
  | some u => match u.phase with
    | .held _ x => putOut (freeTag s slot) r x
    | _ => putOut s r ⟨stPending, u.f.tag.toNat, u.f.index.toNat, u.f.sub.toNat, []⟩

/-- Does a request wait for its commit word (R159): ACK-REQ on an unlocked WRITE, an EXEC or a COMMIT that journals? Readout mode answers so anyway (R202). -/
def waitsForCommit (op : Op) (f : Frame) : Bool :=
  f.flags.getLsbD 2 && (decide (op = .write) || decide (op = .exec) || decide (op = .commit))

/-- Does a request, which takes `s` to `t`, carry a seal break in its transaction, whose new `SealState` the image holds only once the count is journalled
(R156, R159)? -/
def breaksSeal (s t : State) (n : Nat) : Bool := decide (t.flash.breakTxn = some n) && decide (s.flash.breakTxn ≠ some n)

/-- How a finished request, which takes `s` to `t`, is held: until its records are programmed, or ready for its port. -/
def phaseOf (s t : State) (op : Op) (f : Frame) (x : Resp) (n : Nat) : TagPhase :=
  if (waitsForCommit op f || breaksSeal s t n) && decide (n ≠ 0) && decide (t.pw.mode ≠ .readout) then .awaitTxn n x else .done x

/-- Is a request applied as one locked transfer: COMMIT, or the LAST form of it (R235, R159)? -/
def lockedForm (op : Op) (f : Frame) : Bool :=
  decide (op = .commit) || (decide (op = .write) || decide (op = .exec)) && f.flags.getLsbD 0 && f.flags.getLsbD 1

/-- Beats a request's transfer takes: the data bytes written, read or staged; a locked one at most 96 (R235). -/
def requestBeats (s : State) (r : Route) (op : Op) (f : Frame) (x : Resp) : Nat :=
  let staged := match seqOf s r with
    | some q => stagedBytes q.staged
    | none => 0
  if lockedForm op f then min 96 (beatsFor (staged + f.data.length))
  else match op with
    | .write => beatsFor f.data.length
    | .exec => beatsFor f.data.length
    | _ => beatsFor x.data.length

/-- A Grove peer's access that waits at the radio MAC (R243, R248). -/
def waitAtMac (s : State) (r : Route) (op : Op) (f : Frame) (x : Resp) : State :=
  putOut (sourceWait s ⟨r, op, f, requestBeats s r op f x, lockedForm op f⟩) r (reply f stPending [])

/-- Does the radio MAC keep a request back instead of passing FROZEN to its peer (R243)? -/
def macHolds (r : Route) (op : Op) (f : Frame) (x : Resp) : Bool := r.requester.host.isNone && needsGrant op f && decide (x.status = stFrozen)

/-- A request whose result is not ready at its route's response point (R166): PENDING, with the request waiting at the store front (R226) or its result on
its way. -/
def pendRequest (s : State) (r : Route) (op : Op) (f : Frame) : State :=
  let slot := tagSlot r f.tag.toNat
  let (x, n, t) := perform s r op false f
  if macHolds r op f x then waitAtMac s r op f x
  else
    let u := if x.status = stOk && needsGrant op f then
        enqueueFront (putTag s slot ⟨r, op, f, .running⟩) r.requester (requestBeats s r op f x) (lockedForm op f) (.host slot)
      else putTag t slot ⟨r, op, f, phaseOf s t op f x n⟩
    putOut u r (reply f stPending [])

/-- A request answered at its response point: stamped and granted at once where it takes a grant (R226, R230); PENDING when it waits for its commit word. -/
def answerRequest (s : State) (r : Route) (op : Op) (f : Frame) : State :=
  let (x, n, t) := perform s r op false f
  if macHolds r op f x then waitAtMac s r op f x
  else
    let u := if x.status = stOk && needsGrant op f then advanceSeq t else t
    match phaseOf s t op f x n with
    | .awaitTxn m y => putOut (putTag u (tagSlot r f.tag.toNat) ⟨r, op, f, .awaitTxn m y⟩) r (reply f stPending [])
    | _ => putOut u r x

/-- Must a request wait its turn at the store front: a transfer runs, requests wait with earlier stamps (R230, R254), or the arbiter's pending configuration
holds grants back (R240)? -/
def mustWait (s : State) (op : Op) (f : Frame) : Bool :=
  needsGrant op f && (pendingOf s .arbiter || s.front.xfer.isSome || !s.front.waiting.isEmpty)

/-- Does a request reach the factory range at L4, whose objects are not described (Table 05.7)? -/
def factoryAccess (s : State) (r : Route) (op : Op) (f : Frame) : Bool :=
  decide (0xF000 ≤ f.index.toNat) && decide ((session s r).level = 4) && decide (lockCheck s r f = stOk)
    && (decide (op = .read) || decide (op = .readNext) || decide (op = .write) || decide (op = .exec))

/-- A well-formed request from check 4 on (R168, R247, R248): a late result, or one that waits its turn, is PENDING. -/
def serve (s : State) (r : Route) (op : Op) (f : Frame) (late : Bool) : Res :=
  if (mfind s.ports.tags (tagSlot r f.tag.toNat)).isSome then ok (putOut s r (reply f stBusy []))
  else if !mayTakeTag s r.requester then
    let t := bump s (Obj.TagRefusals r.requester.sub)
    ok (if r.requester.host.isSome then putOut t r (reply f stBusy []) else waitAtMac t r op f (perform t r op false f).1)
  else if factoryAccess s r op f then .refused .factoryUndescribed
  else ok (if late || mustWait s op f then pendRequest s r op f else answerRequest s r op f)

/-- An access frame on a route (R157 to R185): checks 1 to 3 of Table 05.6, then the port's own answers, then `serve`. On SPI a length byte above 240 ends
the request after byte 7 and is answered FRAME (R539). A host port whose previous frame the core has not yet acknowledged answers BUSY, and the frame does
not reach the core (R118); the port has checked its form by then (log entry 87). -/
def access (s : State) (r : Route) (op : Op) (f : Frame) (late : Bool) : Res :=
  if !s.pw.storeOpen then ok (putOut s r (reply f stBusy []))
  else if r = .spi ∧ 240 < f.len.toNat then ok (badFrame s r stFrame)
  else if !crcGood op f then ok (badFrame s r stCrc)
  else if !formGood op f then ok (badFrame s r stFrame)
  else
    let t := touch (startCclk s) r f
    match op with
    | .status => ok (statusOf t r f)
    | .nop => ok (putOut t r (reply f stOk []))
    | _ => if r.requester.host.isSome && !f.bufferFree then ok (putOut t r (reply f stBusy [])) else serve t r op f late

/-- Has every record of a transaction its commit word? -/
def durable (s : State) (n : Nat) : Bool :=
  (s.flash.commits ++ s.flash.heldRecs).all (fun r => decide (r.txn ≠ n)) && (match s.flash.work with
    | some (.record r) => decide (r.txn ≠ n)
    | _ => true)

/-- An image write of a store request, for an object that exists and a value that fits it. -/
def putKey (s : State) (e : Nat × Nat) : State :=
  match rowOf e.1 with
  | some d => if e.2 < 256 ^ d.size then setObj s e.1 e.2 else s
  | none => s

/-- The last beat of a transfer (R232): the image changes; a host access's result is then on its way to its port. -/
def execStoreTransferEnd (s : State) : Res :=
  match s.front.xfer with
  | none => ok s
  | some x =>
    let t := { s with front := { s.front with xfer := none } }
    match x.act with
    | .none => ok t
    | .setKey k v => ok (putKey t (k, v))
    | .host slot =>
      match mfind t.ports.tags slot with
      | none => ok t
      | some u =>
        if factoryAccess t u.route u.op u.f then .refused .factoryUndescribed
        else
          let (y, n, v) := perform t u.route u.op true u.f
          ok (putTag v slot { u with phase := phaseOf t v u.op u.f y n })

end Sys2Proof.Machine
end

