-- ==== Sys2Proof/Machine/Host.lean ====
section
/-! DEFINITION. Access frames arriving on the four routes, their delivery on the Grove link, and the commands a host gives as writes of objects
(chapters 05 to 19). -/

namespace Sys2Proof.Machine

/-! ### Routes -/

/-- Does the vicinity port answer (R551, R554, R560)? In every power mode, from the field alone. -/
def vicUp (s : State) : Bool :=
  s.pw.field && !mget s.ports.inReset Route.vicinity.num false && decide (s.ports.vic ≠ .powerOff) && decide (obj s Obj.VicinityEnable = 1) && !portsDead s

/-- Is a route able to bring an access frame to the core: VIO for SPI (R59), the slave engine, the vicinity port, a connection or the window of R605? -/
def portUp (s : State) (r : Route) : Bool :=
  match r with
  | .spi => s.ports.vioOk && !portsDead s
  | .lysef => slaveUp s
  | .vicinity => vicUp s
  | .grove p => isFull s && (if p = 256 then s.radio.compatWindow else connected s p)

/-- The bits of bytes as SDO changes them and SDI is sampled: most significant bit first (R532). -/
def bitsOfBytes (l : List Byte) : List Bool := l.flatMap (fun b => [7, 6, 5, 4, 3, 2, 1, 0].map b.getLsbD)

/-- The edge that opens an SPI transaction releases the port's reset (R121, R559), its status byte is sampled (R534), and the SCK level there selects mode 0
or 3; in mode 0 the edge drives the first SDO bit (R532; log entry 95). -/
def openTransaction (s : State) (r : Route) (sckHigh : Bool) : State :=
  match r with
  | .spi => { s with ports := { s.ports with
      inReset := mset s.ports.inReset Route.spi.num false, spiStatus := portStatus s, spiMode3 := sckHigh
      sdoFirst := if sckHigh then none else (bitsOfBytes (bytesOf 1 (portStatus s))).head? } }
  | _ => s

/-- What SDO carries in a transaction (R532, R533, R539): the port status and 0xFF through the request, high through the turnaround, then the direct
response. -/
def spiShift (f : Frame) (s : State) : State :=
  let n := if f.len.toNat ≤ 240 then f.len.toNat else 0
  let resp := match mfind s.ports.out Route.spi.num with
    | some x => respBytes x
    | none => []
  { s with ports := { s.ports with
    spiSdo := bitsOfBytes (bytesOf 1 s.ports.spiStatus ++ List.replicate (7 + n) 0xFF) ++ List.replicate (obj s Obj.SpiTurnaround) true ++ bitsOfBytes resp } }

/-- Give a Grove peer its response: queued at class 2, or held until a slot is free, under its MAC tag where it has one (R569, R598). -/
def deliverGrove (s : State) (p : Nat) (own : Option (Nat × TagUse)) (x : Resp) : State :=
  let b := respBytes x
  if responseRoom s p b then queueResponse (match own with
    | some e => freeTag s e.1
    | none => s) p b
  else
    let t := match own with
      | some e => putTag s e.1 { e.2 with phase := .held 0 x }
      | none => s
    { t with radio := { t.radio with heldResp := t.radio.heldResp ++ [(p, own.map (·.1), b)] } }

/-- The response to a Grove frame as the access leaves it; PENDING is never sent (R569). A malformed frame, and one whose tag another request holds, has no tag
of its own. -/
def sendGrove (p : Nat) (op : Op) (f : Frame) (s : State) : State :=
  match mfind s.ports.out (Route.grove p).num with
  | none => s
  | some x =>
    let slot := tagSlot (.grove p) f.tag.toNat
    if x.status = stPending then s
    else deliverGrove s p (if x.tag ≤ 3 ∧ (mfind s.ports.tags slot).isNone then some (slot, ⟨.grove p, op, f, .done x⟩) else none) x

/-- An access frame arrives on a route. A route that does not answer stays silent; so does a Lysef slave engine that the request itself has put into reset
(R21). -/
def frameIn (s : State) (r : Route) (op : Op) (f : Frame) (late : Bool) : Res :=
  if !portUp s r then ok s
  else match r, access (openTransaction s r f.sckHigh) r op f late with
    | .grove p, .next t => ok (sendGrove p op f t)
    | .spi, .next t => ok (spiShift f t)
    | .lysef, .next t => ok (if t.lm.running then dropTags t .lysef else t)
    | _, x => x

/-- The result of a PENDING request crosses into its port and is held under its tag (R166, R482); a Grove peer's is queued (R569). -/
def execHeldResponseReady (r : Route) (tag : Nat) (s : State) : Res :=
  let slot := tagSlot r tag
  let give : TagUse → Resp → State → State := fun u x s => match r with
    | .grove p => deliverGrove s p (some (slot, u)) x
    | _ => holdResp s slot x
  match mfind s.ports.tags slot with
  | none => ok s
  | some u =>
    match u.phase with
    | .done x => ok (give u x s)
    | .awaitTxn n x => when (durable s n) s (give u x)
    | _ => ok s

/-! ### Access frames (Table 05.4) -/

/-- READ (R160). -/
def execRead (r : Route) (f : Frame) (late : Bool) (s : State) : Res :=
  frameIn s r .read f late

/-- WRITE (R138, R159). -/
def execWrite (r : Route) (f : Frame) (late : Bool) (s : State) : Res :=
  frameIn s r .write f late

/-- READ_NEXT (R162). -/
def execReadNext (r : Route) (f : Frame) (late : Bool) (s : State) : Res :=
  frameIn s r .readNext f late

/-- BEGIN (R170). -/
def execBeginSeq (r : Route) (f : Frame) (s : State) : Res :=
  frameIn s r .beginSeq f false

/-- COMMIT (R175). -/
def execCommit (r : Route) (f : Frame) (late : Bool) (s : State) : Res :=
  frameIn s r .commit f late

/-- ABORT (R177). -/
def execAbort (r : Route) (f : Frame) (s : State) : Res :=
  frameIn s r .abort f false

/-- EXEC (R160). -/
def execExecObj (r : Route) (f : Frame) (late : Bool) (s : State) : Res :=
  frameIn s r .exec f late

/-- STATUS (R166): answered by the port (R536). -/
def execStatus (r : Route) (f : Frame) (s : State) : Res :=
  frameIn s r .status f false

/-- NOP (R160): answered by the port (R536). -/
def execNop (r : Route) (f : Frame) (s : State) : Res :=
  frameIn s r .nop f false

/-- Is an operation one of those on objects? -/
def onObject (op : Op) : Bool := decide (op = .read) || decide (op = .readNext) || decide (op = .write) || decide (op = .exec)

/-- LOCK_STAGE (R172, R173): an access to an object that carries LOCK and not LAST. -/
def execLockStage (r : Route) (op : Op) (f : Frame) (s : State) : Res :=
  if onObject op && f.flags.getLsbD 0 && !f.flags.getLsbD 1 then frameIn s r op f false else ok s

/-- LAST_COMMIT (R159): a locked WRITE or EXEC that carries LAST. -/
def execLastCommit (r : Route) (op : Op) (f : Frame) (late : Bool) (s : State) : Res :=
  if (decide (op = .write) || decide (op = .exec)) && f.flags.getLsbD 0 && f.flags.getLsbD 1 then frameIn s r op f late else ok s

/-! ### A host's commands, each one access frame -/

/-- The lowest free tag of a route, which a host gives its next request (log entry 44); 0 when all are in use. -/
def nextTag (s : State) (r : Route) : Nat := ([0, 1, 2, 3].find? (fun t => (mfind s.ports.tags (tagSlot r t)).isNone)).getD 0

/-- The frame a host sends: no flags, CRC in place (Table 05.3). -/
def hostFrame (op : Op) (tag key : Nat) (data : List Byte) : Frame :=
  let f : Frame := ⟨0, BitVec.ofNat 8 tag, BitVec.ofNat 16 (key / 256), BitVec.ofNat 8 (key % 256), BitVec.ofNat 8 data.length, data, 0, none, true, false⟩
  { f with crc := BitVec.ofNat 16 (crc16 (frameBytes op f)) }

/-- A host's request over a route, with tag and CRC as the route wants them. -/
def hostAccess (s : State) (r : Route) (op : Op) (key : Nat) (data : List Byte) : Res := frameIn s r op (hostFrame op (nextTag s r) key data) false

/-- A host writes an object over a route. -/
def hostWrite (s : State) (r : Route) (key : Nat) (data : List Byte) : Res := hostAccess s r .write key data

/-- A host executes an X object over a route. -/
def hostExec (s : State) (r : Route) (key : Nat) (data : List Byte) : Res := hostAccess s r .exec key data

/-- OBJECT_WRITE (R138). -/
def execObjectWrite (r : Route) (index : BitVec 16) (sub : Byte) (data : List Byte) (s : State) : Res :=
  hostWrite s r (index.toNat * 256 + sub.toNat) data

/-- SHADOW_DISCARD (R140). -/
def execShadowDiscard (r : Route) (block : Block) (s : State) : Res :=
  hostWrite s r (commitKey block) [2]

/-- AUTH_CHALLENGE (R143). -/
def execAuthChallenge (r : Route) (s : State) : Res :=
  hostAccess s r .read Obj.AuthChallenge []

/-- AUTH_RESPONSE (R145). -/
def execAuthResponse (r : Route) (level : Byte) (mac : BitVec 64) (s : State) : Res :=
  hostWrite s r Obj.AuthResponse ([level] ++ bytesOf 8 mac.toNat)

/-- AUTH_LOGOUT (R146). -/
def execAuthLogout (r : Route) (s : State) : Res :=
  hostWrite s r Obj.AuthLogout [1]

/-- LEVEL_KEY_WRITE (R148). -/
def execLevelKeyWrite (r : Route) (level : Byte) (key : BitVec 128) (s : State) : Res :=
  hostWrite s r (Obj.LevelKey level.toNat) (bytesOf 16 key.toNat)

/-- SEAL (R151). -/
def execSeal (r : Route) (s : State) : Res :=
  hostWrite s r Obj.Seal [1]

/-- SEAL_BREAK (R154). -/
def execSealBreak (r : Route) (s : State) : Res :=
  hostWrite s r Obj.SealBreak [1]

/-- LEAVE_TRANSPORT (R68). -/
def execLeaveTransport (r : Route) (s : State) : Res :=
  hostWrite s r Obj.LeaveTransport [1]

/-- ENTER_TRANSPORT (R50). -/
def execEnterTransport (r : Route) (s : State) : Res :=
  hostWrite s r Obj.EnterTransport [1]

/-- BATTERY_REPLACED (R96). -/
def execBatteryReplaced (r : Route) (mAh : BitVec 32) (s : State) : Res :=
  hostExec s r Obj.BatteryReplaced (bytesOf 4 mAh.toNat)

/-- LF_SOURCE_RESET (R101). -/
def execLfSourceReset (r : Route) (s : State) : Res :=
  hostWrite s r Obj.LfSourceReset [1]

/-- ARBITER_FREEZE (R242). -/
def execArbiterFreeze (r : Route) (s : State) : Res :=
  hostWrite s r Obj.ArbiterFreeze [1]

/-- ARBITER_QUIESCE (R242). -/
def execArbiterQuiesce (r : Route) (s : State) : Res :=
  hostWrite s r Obj.ArbiterFreeze [2]

/-- ARBITER_RUN (R242). -/
def execArbiterRun (r : Route) (s : State) : Res :=
  hostWrite s r Obj.ArbiterFreeze [0]

/-- ARBITER_COMMIT (R240). -/
def execArbiterCommit (r : Route) (s : State) : Res :=
  hostWrite s r Obj.ArbiterCommit [1]

/-- ARBITER_STATS_CLEAR (R252). -/
def execArbiterStatsClear (r : Route) (s : State) : Res :=
  hostWrite s r Obj.ArbiterStatsClear [1]

/-- TDC_PAIR_RETEST (R289). -/
def execTdcPairRetest (r : Route) (s : State) : Res :=
  hostExec s r Obj.TdcPairRetest [1]

/-- TDC_SNAPSHOT_ARM (R265). -/
def execTdcSnapshotArm (r : Route) (v : Byte) (s : State) : Res :=
  hostWrite s r Obj.TdcSnapshotArm [v]

/-- ACOUSTIC_COMMIT (R312). -/
def execAcousticCommit (r : Route) (s : State) : Res :=
  hostWrite s r Obj.AcousticCommit [1]

/-- TEMPLATE_CAPTURE (R302). -/
def execTemplateCapture (r : Route) (s : State) : Res :=
  hostExec s r Obj.TemplateCapture [1]

/-- SAMPLE_CAPTURE_ARM (R296). -/
def execSampleCaptureArm (r : Route) (v : Byte) (s : State) : Res :=
  hostWrite s r Obj.SampleCaptureArm [v]

/-- PATH_CHECK (R319): the terminals show the given rise times from now on. -/
def execPathCheck (r : Route) (rise : List RiseTimes) (s : State) : Res :=
  hostExec { s with pads := { s.pads with rise := rise } } r Obj.PathCheck [1]

/-- FLOW_COMMIT (R350). -/
def execFlowCommit (r : Route) (s : State) : Res :=
  hostWrite s r Obj.FlowCommit [1]

/-- ZERO_CALIBRATE (R340). -/
def execZeroCalibrate (r : Route) (s : State) : Res :=
  hostExec s r Obj.ZeroCalibrate [1]

/-- TEMPERATURE_COMMIT (R378). -/
def execTemperatureCommit (r : Route) (s : State) : Res :=
  hostWrite s r Obj.TemperatureCommit [1]

/-- HEAT_COMMIT (R379). -/
def execHeatCommit (r : Route) (s : State) : Res :=
  hostWrite s r Obj.HeatCommit [1]

/-- ELEC_COMMIT (R419). -/
def execElecCommit (r : Route) (s : State) : Res :=
  hostWrite s r Obj.ElecCommit [1]

/-- COP_RESET (R406). -/
def execCopReset (r : Route) (s : State) : Res :=
  hostExec s r Obj.CopReset [1]

/-- PULSE_COMMIT (R421). -/
def execPulseCommit (r : Route) (s : State) : Res :=
  hostWrite s r Obj.PulseCommit [1]

/-- RTC_TIME_SET (R435). -/
def execRtcTimeSet (r : Route) (time : BitVec 64) (s : State) : Res :=
  hostWrite s r Obj.RtcTimeSet (bytesOf 8 time.toNat)

/-- CALENDAR_SET (R436). -/
def execCalendarSet (r : Route) (bcd : BitVec 56) (s : State) : Res :=
  hostWrite s r Obj.CalendarSet (bytesOf 7 bcd.toNat)

/-- RTC_TIME_ADJUST (R438). -/
def execRtcTimeAdjust (r : Route) (ms : BitVec 32) (s : State) : Res :=
  hostWrite s r Obj.RtcTimeAdjust (bytesOf 4 ms.toNat)

/-- LOCAL_OFFSET_WRITE (R433). -/
def execLocalOffsetWrite (r : Route) (v : Byte) (s : State) : Res :=
  hostWrite s r Obj.LocalOffset [v]

/-- WEEKDAY_WRITE (R434). -/
def execWeekdayWrite (r : Route) (v : Byte) (s : State) : Res :=
  hostWrite s r Obj.Weekday [v]

/-- ALARM_FLAGS_CLEAR (R446). -/
def execAlarmFlagsClear (r : Route) (v : Byte) (s : State) : Res :=
  hostWrite s r Obj.AlarmFlags [v]

/-- PERIODIC_WAKE_WRITE (R448). -/
def execPeriodicWakeWrite (r : Route) (v : BitVec 32) (s : State) : Res :=
  hostWrite s r Obj.PeriodicWake (bytesOf 4 v.toNat)

/-- BACKUP_BYTES_WRITE (R449). -/
def execBackupBytesWrite (r : Route) (data : List Byte) (s : State) : Res :=
  hostWrite s r Obj.BackupBytes data

/-- LATCH_NOW (R462). -/
def execLatchNow (r : Route) (s : State) : Res :=
  hostExec s r Obj.LatchNow [1]

/-- TARIFF_COMMIT (R469). -/
def execTariffCommit (r : Route) (s : State) : Res :=
  hostWrite s r Obj.TariffCommit [1]

/-- ERROR_FLAGS_STICKY_CLEAR (R481). -/
def execErrorFlagsStickyClear (r : Route) (v : BitVec 32) (s : State) : Res :=
  hostWrite s r Obj.ErrorFlagsSticky (bytesOf 4 v.toNat)

/-- IRQ_STATUS_CLEAR (R482). -/
def execIrqStatusClear (r : Route) (v : Byte) (s : State) : Res :=
  hostWrite s r Obj.IrqStatus [v]

/-- LYSEF_SHORT_ADDRESS_WRITE (R509). -/
def execLysefShortAddressWrite (r : Route) (v : Byte) (s : State) : Res :=
  hostWrite s r Obj.LysefShortAddress [v]

/-- LYSEF_FULL_SEARCH (R515). -/
def execLysefFullSearch (r : Route) (s : State) : Res :=
  hostWrite s r Obj.LysefSearch [1]

/-- LYSEF_NEW_SEARCH (R518). -/
def execLysefNewSearch (r : Route) (s : State) : Res :=
  hostWrite s r Obj.LysefSearch [2]

/-- LYSEF_MASTER_SEND (R514, R519): `answer` is what the segment returns, cell by cell. -/
def execLysefMasterSend (r : Route) (data : List Byte) (answer : List LsnsRead) (s : State) : Res :=
  hostWrite { s with lm := { s.lm with answer := bytesOfBits (readBits s answer) } } r Obj.LysefMasterSend data

/-- RADIO_COMMIT (R563). -/
def execRadioCommit (r : Route) (s : State) : Res :=
  hostWrite s r Obj.RadioCommit [1]

/-- STEM_ADMIT (R618). -/
def execStemAdmit (r : Route) (identity : BitVec 64) (key : BitVec 128) (short : Byte) (s : State) : Res :=
  hostExec s r Obj.StemAdmit (bytesOf 8 identity.toNat ++ bytesOf 16 key.toNat ++ [short])

/-- STEM_REMOVE (R640). -/
def execStemRemove (r : Route) (identity : BitVec 64) (s : State) : Res :=
  hostExec s r Obj.StemRemove (bytesOf 8 identity.toNat)

/-- GROVE_MAP_UPDATE (R628). -/
def execGroveMapUpdate (r : Route) (map : BitVec 64) (first : Byte) (s : State) : Res :=
  hostExec s r Obj.GroveMapUpdate (bytesOf 8 map.toNat ++ [first])

/-- CONN_UPDATE (R629). -/
def execConnUpdate (r : Route) (map : BitVec 64) (first : Byte) (instant : BitVec 16) (s : State) : Res :=
  hostExec s r Obj.ConnUpdate (bytesOf 8 map.toNat ++ [first] ++ bytesOf 2 instant.toNat)

/-- GROVE_SEND (R631). -/
def execGroveSend (r : Route) (data : List Byte) (s : State) : Res :=
  hostWrite s r Obj.GroveSend data

/-- MAILBOX_OUT (R633). -/
def execMailboxOut (r : Route) (data : List Byte) (s : State) : Res :=
  hostWrite s r Obj.MailboxOut data

/-- MAILBOX_POP (R632). -/
def execMailboxPop (r : Route) (s : State) : Res :=
  hostWrite s r Obj.MailboxPop [1]

/-- TRANSDUCER_REPLACE_BEGIN (R649). -/
def execTransducerReplaceBegin (r : Route) (path : Byte) (s : State) : Res :=
  hostWrite s r Obj.TransducerReplace [1, path]

/-- TRANSDUCER_REPLACE_COMPLETE (R651): the path's terminals show the given rise times from now on. -/
def execTransducerReplaceComplete (r : Route) (path : Byte) (rise : RiseTimes) (s : State) : Res :=
  hostWrite { s with pads := { s.pads with rise := s.pads.rise.set path.toNat rise } } r Obj.TransducerReplace [2, path]

/-- TRANSDUCER_REPLACE_CANCEL (R650). -/
def execTransducerReplaceCancel (r : Route) (path : Byte) (s : State) : Res :=
  hostWrite s r Obj.TransducerReplace [3, path]

/-- SENSOR_REPLACE (R657). -/
def execSensorReplace (r : Route) (data : List Byte) (s : State) : Res :=
  hostWrite s r Obj.SensorReplace data

/-- LYSEF_MASTER_ENABLE (R21). -/
def execLysefMasterEnable (r : Route) (v : Byte) (s : State) : Res :=
  hostWrite s r Obj.LysefMasterEnable [v]

/-- LYSEF_CELL_RATE_CHANGE (R517). -/
def execLysefCellRateChange (r : Route) (v : BitVec 16) (s : State) : Res :=
  hostWrite s r Obj.LysefCellRate (bytesOf 2 v.toNat)

end Sys2Proof.Machine
end

