-- ==== Sys2Proof/Machine/Ports.lean ====
section
/-! DEFINITION. The port engines: port resets with the requests the core had captured, Lysef ACCESS, the SPI tail, and ISO/IEC 15693 (chapters 01, 02, 04,
15, 16). -/

namespace Sys2Proof.Machine

/-! ### Port resets -/

/-- Is a tag's transfer in progress and open to revocation (R256)? -/
def revocable (s : State) (slot : Nat) : Bool :=
  match s.front.xfer with
  | some x => !x.locked && (match x.act with
    | .host n => decide (n = slot)
    | _ => false)
  | none => false

/-- Requests of a route that the core has captured and not finished. -/
def captured (s : State) (r : Route) : List (Nat × TagUse) :=
  s.ports.tags.filter (fun e => decide (e.2.route = r) && decide (e.2.phase = .running))

/-- The image writes of a port that wait at the store front (R226). -/
def waitingWrites (s : State) (r : Route) : List (Nat × Nat) :=
  s.front.waiting.filterMap (fun w => match w.act with
    | .setKey k v => if w.req.host = some r then some (k, v) else none
    | _ => none)

/-- Carry the captured requests of a route out, their responses discarded (R123); a transfer in progress without a lock is revoked instead (R256; log
entry 46). -/
def carryCaptured (s : State) (r : Route) : State :=
  (captured s r).foldl (fun t e =>
    if revocable s e.1 || factoryAccess t r e.2.op e.2.f then t else (perform t r e.2.op false e.2.f).2.2) ((waitingWrites s r).foldl putKey s)

/-- Is a request one whose effect a reader wants to know of (R557)? -/
def writesState (op : Op) : Bool := decide (op = .write) || decide (op = .exec) || decide (op = .commit)

/-- VICINITY_WRITE_CUT for each captured write whose response has not been sent (R557). -/
def cutWrites (s : State) : State :=
  (s.ports.tags.filter (fun e => decide (e.2.route = .vicinity) && writesState e.2.op)).foldl (fun t e =>
    raise (bump t Obj.VicinityWriteCuts) 0x5101 (pl 2 e.2.f.index.toNat ++ [e.2.f.sub.toNat])) s

/-- A port reset as the core lives it: captured requests first, then R27. -/
def portReset (s : State) (p : Port) : State := resetPort (carryCaptured s p.route) p

/-- The field is lost: write cuts (R557), the port reset (R556), and the core stops where the field alone ran it. -/
def fieldDown (s : State) : State :=
  let t := portReset (cutWrites s) .vicinity
  readoutEnds { t with pw := { t.pw with field := false } }

/-- A break: the tracker empties and the Lysef port is reset; a bus valid now has been valid since before the break (R498, R506). -/
def breakLine (s : State) : State :=
  let t := bump (portReset s .lysef) Obj.LysefBreakCount
  { t with ly := { t.ly with tracker := false, steady := true } }

/-- VIO falls: the SPI port is reset as for nCS rising in mid-frame, PIn edges are ignored, open-drain outputs are at Z (R59). -/
def vioDown (s : State) : State :=
  let t := portReset s .spi
  { t with ports := { t.ports with vioOk := false }, pads := { t.pads with po := [] } }

/-- PORT_RESET (R27, R120, R123, R256): the causes of a port, each with what it does beside the reset; another port's cause does nothing here. -/
def execPortReset (p : Port) (cause : ResetCause) (s : State) : Res :=
  match p, cause with
  | .spi, .midFrame => when (s.ports.vioOk && !portsDead s) s fun s => portReset s .spi
  | .spi, .vioLoss => when s.ports.vioOk s vioDown
  | .lysef, .lineBreak => when (s.pw.bus && !s.lm.running) s breakLine
  | .vicinity, .fieldLoss => when s.pw.field s fieldDown
  | _, .chipReset => when (decide (s.pw.mode = .chipReset)) s fun s => resetPort s p
  | _, _ => ok s

/-- BREAK (R498). -/
def execLineBreak (s : State) : Res := when (s.pw.bus && !s.lm.running) s breakLine

/-- BUS_LOSS (R496, Table 15.8): the Lysef port is reset and counts it. -/
def execBusLoss (s : State) : Res :=
  when s.pw.bus s (fun s =>
    let t := bump (portReset s .lysef) Obj.LysefBreakCount
    readoutEnds { t with pw := { t.pw with bus := false }, ly := ⟨false, 0, false, [], t.ly.reply, none⟩ })

/-- VIO_LOSS (R59): nRST reads high from now on, so a chip reset in progress ends. -/
def execVioLoss (s : State) (testHigh : Bool := false) (faults : FlashFaults := {}) : Res :=
  when s.ports.vioOk s fun s =>
    let t := vioDown s
    if t.pw.mode = .chipReset then releaseReset testHigh faults t else t

/-! ### Lysef ACCESS -/

/-- LYSEF_ACCESS (R502 to R504): silence for another device's address, an error for a bad header or a frame cut short, else the access. -/
def execLysefAccess (addr hck op f : List LyCell) (late : Bool) (s : State) (bufferFree : Bool := true) : Res :=
  slaveFrame s (addr ++ hck ++ op ++ f) fun s l =>
    let b := bytesOfBits l
    match lyHeader s b 0x01 true with
    | .silent => ok s
    | .wrong => ok (bump s Obj.LysefFrameErrors)
    | .mine =>
      let body := b.drop 3
      let n := (body[5]?.getD 0).toNat
      let frame := body.take (8 + if n ≤ 240 then n else 0)
      if body.length < 8 ∨ frame.length < 8 + (if n ≤ 240 then n else 0) then ok (bump s Obj.LysefFrameErrors)
      else frameIn s .lysef ((opOf ((frame.headD 0).toNat / 16)).getD .nop) { frameOf frame with bufferFree := bufferFree } late

/-! ### The SPI tail -/

/-- A held response of a tag, with its order of readiness. -/
def heldOf (u : TagUse) : Option (Nat × Resp) :=
  match u.phase with
  | .held n x => some (n, x)
  | _ => none

/-- The held SPI response that became ready first, ties to the lower tag (R537), with its slot. -/
def firstHeld (s : State) : Option (Nat × Resp) :=
  let l := s.ports.tags.filterMap (fun e => if e.2.route = .spi then (heldOf e.2).map (fun h => (h.1, e.1, h.2)) else none)
  match l with
  | [] => none
  | h :: t => some (t.foldl (fun a b => if b.1 < a.1 then b else a) h).2

/-- SPI_TAIL_FRAME (R537, R552, R553): the held response that became ready first, whose tag is then free, or 0xFF. -/
def execSpiTailFrame (s : State) : Res :=
  when (portUp s .spi) s fun s =>
    match firstHeld s with
    | none => { s with ports := { s.ports with spiTail := [0xFF], spiSdo := bitsOfBytes [0xFF] } }
    | some (slot, x) =>
      let t := putOut (freeTag s slot) .spi x
      { t with ports := { t.ports with spiTail := respBytes x, spiSdo := bitsOfBytes (respBytes x) } }

/-! ### ISO/IEC 15693 (R542 to R551, R554) -/

/-- Keep the vicinity port's response bytes; none is silence. -/
def vicAnswer (b : List Byte) (s : State) : State := { s with ports := { s.ports with vicOut := b } }

/-- Enter an ISO/IEC 15693 state. -/
def vicEnter (v : VicState) (s : State) : State := { s with ports := { s.ports with vic := v } }

/-- A request to the vicinity port: nothing happens where it does not answer (R551); else silence unless the request puts bytes there. -/
def vicRequest (s : State) (f : State → State) : Res := when (vicUp s) s fun s => f (vicAnswer [] s)

/-- Is the device addressed (R548; ISO/IEC 15693 in Quiet: addressed requests only, log entry 47)? -/
def vicAddressed (s : State) (m : VicMode) : Bool :=
  match m with
  | .nonAddressed => decide (s.ports.vic ≠ .quiet)
  | .addressed u => decide (u.toNat = vicinityUid s)
  | .selected => decide (s.ports.vic = .selected)

/-- The UID as it goes on air, least significant byte first (R543). -/
def uidOnAir (s : State) : List Byte := (bytesOf 8 (vicinityUid s)).reverse

/-- INVENTORY: answered outside Quiet, with no AFI or AFI 0x00, when the mask, 0 to 60 bits, matches the low UID bits; in its slot of 16 or the only one. -/
def execInventory (mode16 : Bool) (afi : Option Byte) (maskLen : Nat) (mask : BitVec 64) (s : State) : Res :=
  vicRequest s fun s =>
    let uid := vicinityUid s
    let match_ : Bool := decide (maskLen ≤ 60) && decide (uid % 2 ^ maskLen = mask.toNat % 2 ^ maskLen)
    if decide (s.ports.vic ≠ .quiet) && (afi = none || afi = some 0) && match_ then
      let t := vicAnswer ([0x00, 0x00] ++ uidOnAir s) s
      { t with ports := { t.ports with vicSlot := if mode16 then uid / 2 ^ maskLen % 16 else 0 } }
    else s

/-- STAY_QUIET: no response. -/
def execStayQuiet (uid : BitVec 64) (s : State) : Res :=
  vicRequest s fun s => if uid.toNat = vicinityUid s then vicEnter .quiet s else s

/-- SELECT: answered by the device named; a selected device not named returns to Ready. -/
def execSelect (uid : BitVec 64) (s : State) : Res :=
  vicRequest s fun s =>
    if uid.toNat = vicinityUid s then vicAnswer [0x00] (vicEnter .selected s)
    else if s.ports.vic = .selected then vicEnter .ready s else s

/-- RESET_TO_READY. -/
def execResetToReady (mode : VicMode) (s : State) : Res :=
  vicRequest s fun s => if vicAddressed s mode then vicAnswer [0x00] (vicEnter .ready s) else s

/-- GET_SYSTEM_INFORMATION (R545). -/
def execGetSystemInformation (mode : VicMode) (s : State) : Res :=
  vicRequest s fun s =>
    if vicAddressed s mode then vicAnswer ([0x00, 0x08] ++ uidOnAir s ++ bytesOf 1 (obj s Obj.SiliconRevision)) s else s

/-- The ACCESS response the reader gets: flags 0x00 and the access response frame (R546). -/
def vicRespond (s : State) : State :=
  match mfind s.ports.out Route.vicinity.num with
  | some x => vicAnswer ([0x00] ++ respBytes x) s
  | none => s

/-- VICINITY_ACCESS (R546 to R549): nothing is answered to a failed ISO CRC, which is counted; an unsupported command gives error 0x01 outside
non-addressed mode; ACCESS is ignored in non-addressed mode, for another device or another manufacturer code; too few bytes give error 0x02, the option flag
error 0x03. -/
def execVicinityAccess (mode : VicMode) (option : Bool) (mfr : Byte) (op : Op) (f : Frame) (late : Bool) (s : State) (form : IsoForm := .intact) : Res :=
  if !vicUp s then ok s
  else
    let t := vicAnswer [] s
    if form = .badCrc then ok (bump t Obj.VicinityFrameErrors)
    else if form = .unsupported then
      ok (if mode ≠ .nonAddressed ∧ vicAddressed s mode then vicAnswer [0x01, 0x01] (bump t Obj.VicinityFrameErrors) else t)
    else if mode = .nonAddressed ∨ !vicAddressed s mode ∨ mfr.toNat ≠ obj s Obj.IcManufacturerCode then ok t
    else if form = .short then ok (vicAnswer [0x01, 0x02] (bump t Obj.VicinityFrameErrors))
    else if option then ok (vicAnswer [0x01, 0x03] (bump t Obj.VicinityFrameErrors))
    else match frameIn t .vicinity op f late with
      | .next u => ok (vicRespond u)
      | x => x

end Sys2Proof.Machine
end

