-- ==== Sys2Proof/Machine/Air.lean ====
section
/-! DEFINITION. Frames received on air: form, grove, MIC and counters, acknowledgement and the power loop, the contents of DATA frames, joins, INSTALL and
the EN 13757-4 response window (chapters 17 and 18). -/

namespace Sys2Proof.Machine

/-! ### Form, security, counters -/

/-- Type of a frame (Table 17.5). -/
def typeOf (f : AirFrame) : Nat := f.control.toNat / 16

/-- Length of the MAC frame. -/
def macLen (f : AirFrame) : Nat := 10 + f.payload.length + f.mic.length

/-- CRC, length and type of a received frame (R567). -/
def airIntact (f : AirFrame) : Bool :=
  f.crcOk && decide (9 ≤ macLen f) && decide (macLen f ≤ 250) && decide (1 ≤ typeOf f) && decide (typeOf f ≤ 8)

/-- Count a dropped reception (`RxDropCount`). -/
def rxDrop (s : State) (i : Nat) : State := bump s (Obj.RxDropCount i)

/-- A frame whose MIC fails changes no other state (R572). -/
def micFail (s : State) : State := raiseOnce (rxDrop s 3) (0x5203 * 65536) 3600 0x5203 []

/-- A replayed frame (Table 17.7): counted, logged once per neighbour per hour. -/
def replayDrop (s : State) (p : Nat) : State := raiseOnce (rxDrop s 4) (0x5202 * 65536 + p) 3600 0x5202 []

/-- The neighbour a frame of a connection claims to come from, when it is for this device and its grove (R572). -/
def sourceOf (s : State) (f : AirFrame) : Option Nat :=
  if f.groveId.toNat ≠ ownGrove s ∨ f.dst.toNat ≠ ownShort s then none
  else if isCrown s then (if f.src.toNat = 0 then none else some f.src.toNat)
  else if isStem s ∧ f.src.toNat = 0 then some 0 else none

/-- Is the receiver open: radio up, nothing on air from this device? -/
def listening (s : State) : Bool := radioUp s && decide (s.radio.air = [])

/-- Link margin of a reception, dB (R595). -/
def marginOf (s : State) (f : AirFrame) : Int := clampI (-127) 127 (f.rssi - (bandTable (obj s Obj.RadioBand)).2.2.2.2)

/-- An authenticated RESYNC frame raises the transmit counter to its floor and logs the raise (R575). -/
def raiseCounter (s : State) (p floor : Nat) : State :=
  match nbr s p with
  | none => s
  | some n => if n.tx < floor then
      raise (setNbr s p { n with tx := floor, txSaved := if obj s Obj.StoreStage = 2 then n.txSaved else floor - floor % 256 }) 0x5207
    else s

/-- Time of an authenticated frame from a neighbour (R582). -/
def hear (s : State) (p : Nat) : State :=
  match nbr s p with
  | none => s
  | some n => setNbr s p { n with heard := ticks s }

/-- Ticks from a frame's start to the end of its sync word (Table 17.3): 48 bits. -/
def syncTicks (s : State) : Nat := (48 * 32768 + bandRate s / 2) / bandRate s

/-- Accept a frame with counter c (R573 to R575): counter, margin, contact; a stem moves its prediction onto the first frame of its window (R580). -/
def acceptFrame (s : State) (p : Nat) (f : AirFrame) : State :=
  match nbr s p with
  | none => s
  | some n =>
    let c := f.counter.toNat
    let conn := match n.conn with
      | none => none
      | some k => if isStem s ∧ 0 < s.radio.openNs then
          some { k with anchor0 := (ticks s : Int) - syncTicks s - ((k.event : Int) - 1) * (k.interval * 128 : Nat) }
        else some k
    let t := setNbr s p { n with
      rx := c, rxSaved := if n.rx / 256 < c / 256 ∧ obj s Obj.StoreStage ≠ 2 then c - c % 256 else n.rxSaved,
      resync := n.resync && decide (c < n.floor), margin := some (marginOf s f), lastTick := ticks s, contact := uptime s, conn := conn }
    { t with radio := { t.radio with
      openNs := 0
      dawn := false
      pllFails := 0
      stems := match mfind t.radio.stems p with
        | none => t.radio.stems
        | some e => mset t.radio.stems p { e with contact := uptime s } } }

/-- P after an answer that reports margin m (R595). -/
def powerAfter (s : State) (p : Int) (m : Int) : Int :=
  let i := (chargedEntry s (channelSpan s s.radio.evChan)).getD 0
  let target : Int := obj s Obj.LinkMarginTarget
  let q := powerIn s i p
  if target + 6 < m then powerIn s i (q - 2) else if m < target then powerIn s i (q + 4) else q

/-- A frame that answers ours acknowledges it (R578, R579): its queue entry is freed, the power loop runs. -/
def acknowledged (s : State) (p : Nat) (f : AirFrame) : State :=
  if !s.radio.await then s
  else match nbr s p with
    | none => s
    | some n =>
      let u := setNbr s p { n with out := none, power := if f.margin.toNat = 0x80 then n.power else powerAfter s n.power (toInt 1 f.margin.toNat) }
      let t := { u with radio := { u.radio with await := false } }
      match n.out with
      | none => t
      | some o => match o.entry with
        | none => t
        | some id => dropEntry t id

/-- Answer a frame of the event (R578): DATA or ACK to anything but an ACK; to an ACK, only while either side's last frame carried MORE. -/
def answerFrame (s : State) (p : Nat) (f : AirFrame) : State :=
  if !mayTransmit s then s
  else if typeOf f ≠ 5 ∨ f.control.getLsbD 1 || s.radio.more then (sendInEvent s p s.radio.evChan ackControl true true).2
  else s

/-- The ACK that tells a sender below the floor to resync (R575). -/
def answerResync (s : State) (p : Nat) : State :=
  match nbr s p with
  | none => s
  | some n =>
    let chan := s.radio.evChan
    if mayTransmit s && decide (gate s 0 (channelSpan s chan) chan (airMs s (onAirLength (macLength n []))) n.power true = .send) then
      sendNew s p chan ackControl [] none false
    else s

/-! ### Contents of DATA frames -/

/-- Content and fragment bits of a DATA subtype byte. -/
def contentOf (l : List Byte) : Nat := (l.headD 0).toNat % 64
def fragmentOf (l : List Byte) : Nat := (l.headD 0).toNat / 64

/-- Does a complete content go to the mailbox (R632)? -/
def mailBound (s : State) (p content : Nat) : Bool :=
  decide (content = 5) || decide (content = 3) && !isCrown s || decide (content = 4) && isCrown s || decide (content = 2) && decide (s.radio.send ≠ some p)

/-- Frames in the RX queue: the inbox, first fragments that wait for their last, and accesses that wait at the MAC (R243, R248). -/
def rxHeld (s : State) : Nat := s.radio.inbox.length + s.front.source.length + (s.radio.nbrs.filter (fun e => e.2.frag.isSome)).length

/-- Is there room for a received frame (R599, R632)? A last fragment joins its first in one entry (R568). -/
def rxRoom (s : State) (f : AirFrame) (p : Nat) (l : List Byte) : Bool :=
  let joins := decide (fragmentOf l = 2) && ((nbr s p).bind (·.frag)).isSome
  (decide (rxHeld s < 4) || decide (typeOf f = 4) && joins) && !(decide (typeOf f = 4) && decide (fragmentOf l ≠ 1) && mailBound s p (contentOf l) && decide (2 ≤ s.radio.inbox.length))

/-- Put a frame into the inbox (R632): source, content, length, data. -/
def toMailbox (s : State) (p content : Nat) (b : List Byte) : State :=
  inboxIrq { s with radio := { s.radio with
    inbox := s.radio.inbox ++ [bytesOf 1 p ++ bytesOf 1 content ++ bytesOf 1 (min 237 b.length) ++ b.take 237] } }

/-- An access request from a Grove peer (R569). A reserved opcode is malformed, and so are fewer bytes than a frame has (R165). -/
def peerRequest (s : State) (p : Nat) (b : List Byte) : Res :=
  if b.length < 8 then
    if portUp s (.grove p) && s.pw.storeOpen then ok (sendGrove p .nop (frameOf b) (badFrame s (.grove p) stFrame)) else ok s
  else frameIn s (.grove p) ((opOf ((b.headD 0).toNat / 16)).getD .nop) (frameOf b) false

/-- Keep a stem's telegram, newest `LatchSequence` first, truncated to 8 registers, and append it to the grove tables region (R630; log entry 48). -/
def keepSnapshot (s : State) (p : Nat) (b : List Byte) : State :=
  match mfind s.radio.stems p with
  | none => s
  | some e =>
    let newer : Bool := decide (e.snapshot = []) || decide (natOf ((e.snapshot.drop 8).take 4) < natOf (b.take 4))
    if decide (18 ≤ b.length) && newer then
      setStem (match ringAppend s 80 87 12 with
        | some (t, _) => t
        | none => s) p { e with snapshot := bytesOf 8 (t48 s) ++ b.take 82 }
    else s

/-- Deliver a complete content from a neighbour (Table 17.5, R583, R630 to R632). -/
def deliver (s : State) (p content : Nat) (b : List Byte) : Res :=
  if mailBound s p content then ok (toMailbox s p content b)
  else match content with
    | 1 => peerRequest s p b
    | 2 => ok (groveResult { s with radio := { s.radio with send := none } } 0 p b)
    | 3 => ok (keepSnapshot s p b)
    | 4 => ok (phaseReference s 2 (natOf (b.take 8)) s.rtc.tk s.rtc.bin)
    | _ => ok s

/-- Keep or drop a neighbour's first fragment. -/
def setFrag (s : State) (p : Nat) (x : Option (Nat × List Byte)) : State :=
  match nbr s p with
  | none => s
  | some n => setNbr s p { n with frag := x }

/-- Deliver the payload of an accepted DATA frame: whole, or joined from its two fragments (R568). -/
def deliverData (s : State) (p counter : Nat) (l : List Byte) : Res :=
  let first := match nbr s p with
    | some n => n.frag
    | none => none
  match fragmentOf l with
  | 0 => deliver (setFrag s p none) p (contentOf l) (l.drop 1)
  | 1 => ok (setFrag s p (some (counter, l)))
  | 2 => match first with
    | some (c, a) => if c + 1 = counter ∧ contentOf a = contentOf l then deliver (setFrag s p none) p (contentOf l) (a.drop 1 ++ l.drop 1)
      else ok (setFrag s p none)
    | none => ok s
  | _ => ok (setFrag s p none)

/-- A received frame of a connection, past its MIC: counters (Table 17.7, R575), acknowledgement, delivery, answer (R578). -/
def receiveAuth (s : State) (p : Nat) (n : Nbr) (f : AirFrame) (pay : List Byte) : Res :=
  let c := f.counter.toNat
  let resync := f.control.getLsbD 0
  let l := if resync then pay.drop 4 else pay
  let t := hear (if resync then raiseCounter s p (natOf (pay.take 4)) else s) p
  if n.resync ∧ c < n.floor then ok (answerResync (replayDrop t p) p)
  else if c < n.rx then ok (replayDrop t p)
  else if c = n.rx then ok (answerFrame (acknowledged (rxDrop t 5) p f) p f)
  else if !rxRoom t f p l then ok (rxDrop t 1)
  else
    let u := acknowledged (acceptFrame t p f) p f
    match (if typeOf f = 4 then deliverData u p c l else ok u) with
    | .next v => ok (answerFrame v p f)
    | x => x

/-- A frame received in the open event of a connection (R572): form, grove and destination, MIC. -/
def receiveLinked (s : State) (f : AirFrame) : Res :=
  if !listening s then ok s
  else if !airIntact f then ok (rxDrop s 2)
  else match sourceOf s f with
    | none => ok s
    | some p =>
      if s.radio.event ≠ some p then ok s
      else match nbr s p with
        | none => ok s
        | some n => match openAir n.key n.identity f with
          | none => ok (micFail s)
          | some pay => receiveAuth s p n f pay

/-- A frame of the type a row names; another intact type is not that row's frame, and nothing happens (log entry 4). -/
def receiveTyped (s : State) (type_ : Nat) (f : AirFrame) : Res :=
  if airIntact f && decide (typeOf f ≠ type_) then ok s else receiveLinked s f

/-- POLL (R578): a stem answers with DATA or ACK. -/
def execPoll (f : AirFrame) (s : State) : Res := receiveTyped s 6 f

/-- ACK (R579). -/
def execAck (f : AirFrame) (s : State) : Res := receiveTyped s 5 f

/-- DATA_ACCESS_REQUEST (R569). -/
def execDataAccessRequest (f : AirFrame) (s : State) : Res := receiveTyped s 4 f

/-- DATA_ACCESS_RESPONSE (R631, R632). -/
def execDataAccessResponse (f : AirFrame) (s : State) : Res := receiveTyped s 4 f

/-- DATA_TELEGRAM (R630, R632). -/
def execDataTelegram (f : AirFrame) (s : State) : Res := receiveTyped s 4 f

/-- DATA_GROVE_TIME (R583, R439). -/
def execDataGroveTime (f : AirFrame) (s : State) : Res := receiveTyped s 4 f

/-- DATA_MAILBOX (R632). -/
def execDataMailbox (f : AirFrame) (s : State) : Res := receiveTyped s 4 f

/-! ### Joins -/

/-- Does a grove match under a stem's `GroveId` (chapter 18, Roles)? -/
def groveMatches (s : State) (g : Nat) : Bool := decide (obj s Obj.GroveId = 0xFFFF) || decide (obj s Obj.GroveId = g)

/-- Eight random bytes. -/
def nonce8 (s : State) : Nat × State :=
  let (v, t) := draw s
  (v % 2 ^ 64, t)

/-- Queue a frame that goes at once on a channel, and send it. -/
def sendAt (s : State) (control chan : Nat) (payload : List Byte) : State := pump (enqueueEntry s 4 0 control payload (some chan) false)

/-- JOIN_REQ payload (Table 18.1). -/
def joinReqPayload (s : State) (crown nonce : Nat) : List Byte :=
  let own := obj s Obj.DeviceIdentity
  bytesOf 8 own ++ bytesOf 8 nonce ++ bytesOf 1 (radioSca s) ++ bytesOf 2 (obj s Obj.GlanceInterval)
    ++ bytesOf 8 (Aes.cmac8 (obj s Obj.GroveJoinKey) (pl 8 crown ++ pl 8 own ++ pl 8 nonce ++ [1]))

/-- Beacon time of the own crown is a reference (R583, R439; a member is one that has joined that crown: log entry 49). -/
def beaconTime (s : State) (crown : Nat) (stamp : Nat) : State :=
  if decide (crown ≠ 0) && decide (obj s Obj.GroveCrownIdentity = crown) && decide (stamp ≠ 2 ^ 64 - 1) then phaseReference s 2 stamp s.rtc.tk s.rtc.bin else s

/-- A BEACON past its MIC (R620): time, then with ACCEPTING set a draw of 1 in 4 sends JOIN_REQ on the channel of the scan. -/
def beaconIn (s : State) (crown grove : Nat) (l : List Byte) : State :=
  let t := beaconTime s crown (natOf ((l.drop 8).take 8))
  match t.radio.scan with
  | none => t
  | some chan =>
    if connected t 0 || !groveMatches t grove || !((l[16]?).getD 0).getLsbD 0 then t
    else
      let (d, u) := draw t
      if d % 4 ≠ 0 then u
      else
        let (z, v) := nonce8 u
        let w := linkState { v with radio := { v.radio with join := some ⟨crown, grove, ((l[17]?).getD 0).toNat, z⟩ } } 2
        if mayTransmit w then sendAt w 0x24 chan (joinReqPayload w crown z) else w

/-- BEACON (R620, R583): heard by a stem that scans, or is not in an event. -/
def execBeacon (sender : BitVec 64) (f : AirFrame) (s : State) : Res :=
  when (listening s && isStem s && s.radio.event.isNone && decide (typeOf f = 1 ∨ ¬ airIntact f)) s fun s =>
    if !airIntact f then rxDrop s 2
    else match openAir (obj s Obj.GroveNetworkKey) sender.toNat f with
      | none => micFail s
      | some l => if natOf (l.take 8) = sender.toNat then beaconIn s sender.toNat f.groveId.toNat l else s

/-- Is slot i usable (R624)? -/
def slotUsable (s : State) (i : Nat) : Bool :=
  decide (i * obj s Obj.SlotTime * 256 + obj s Obj.SlotTime * 256 < obj s Obj.ConnInterval * 1000)

/-- The next anchor of slot i (R624), in ticks: E + round(i × SlotTime × 32.768) + k × interval, the first after the sync word of a frame that
starts now, from which JOIN_RSP gives its delay (Table 18.1). -/
def nextAnchor (s : State) (i : Nat) : Nat :=
  let a := s.radio.epoch + (roundDiv (i * obj s Obj.SlotTime * 32768) 1000).toNat
  let v := obj s Obj.ConnInterval * 128
  let now := ticks s + syncTicks s
  if now < a then a else if v = 0 then a else a + ((now - a) / v + 1) * v

/-- JOIN_RSP payload (Table 18.1), its CMAC under the join key. -/
def joinRspPayload (key stem result stemNonce : Nat) (body : List Byte) : List Byte :=
  let b := bytesOf 8 stem ++ bytesOf 1 result ++ padTo 30 0 body
  b ++ bytesOf 8 (Aes.cmac8 key (nums b ++ pl 8 stemNonce ++ [2]))

/-- Answer a JOIN_REQ with a refusal (R621); an identity that is not admitted has no join key, so the CMAC's key is a free value (log entry 49). -/
def refuseJoin (s : State) (chan stem result stemNonce : Nat) (key : Option Nat) : State :=
  match key with
  | some k => sendAt s 0x34 chan (joinRspPayload k stem result stemNonce [])
  | none =>
    let (k, t) := draw s
    sendAt t 0x34 chan (joinRspPayload (k % 2 ^ 128) stem result stemNonce [])

/-- Link key of a pair (R622): AES-128 under the join key of the crown nonce followed by the stem nonce. -/
def linkKey (joinKey crownNonce stemNonce : Nat) : Nat := Aes.num (Aes.encrypt (Aes.block16 joinKey) (pl 8 crownNonce ++ pl 8 stemNonce))

/-- Parameters a crown gives a connection: the slot's next anchor (R624), h and b drawn, for the manual gives no rule for them (log entry 49). -/
def newConn (s : State) (i : Nat) : Conn × State :=
  let (d, t) := draw s
  (⟨obj s Obj.ConnInterval, nextAnchor s i, 0, 2 * (d % 32) + 1, d / 32 % 64, obj s Obj.SupervisionTimeout, obj s Obj.ChannelMap, obj s Obj.MapFirstChannel,
    none⟩, t)

/-- The crown admits a stem: link key, counters, neighbour state, its entry connected, STEM_JOINED (R622, R623). -/
def crownJoin (s : State) (i : Nat) (e : Stem) (key sca glance : Nat) (c : Conn) : State :=
  let n : Nbr := { Nbr.fresh e.identity key with sca := sca, glance := glance, lastTick := ticks s, heard := ticks s, contact := uptime s, conn := some c }
  raise (countStems (setStem (setNbr s i n) i { e with state := 1, contact := uptime s })) 0x5301 [i]

/-- JOIN_REQ past its MIC (R621 to R624). -/
def joinReqIn (s : State) (chan : Nat) (l : List Byte) : State :=
  let stem := natOf (l.take 8)
  let z := natOf ((l.drop 8).take 8)
  match entryHolding s stem with
  | none => refuseJoin s chan stem 1 z none
  | some i => match mfind s.radio.stems i with
    | none => refuseJoin s chan stem 1 z none
    | some e =>
      if natOf ((l.drop 19).take 8) ≠ Aes.cmac8 e.joinKey (pl 8 (obj s Obj.DeviceIdentity) ++ pl 8 stem ++ pl 8 z ++ [1]) then
        refuseJoin s chan stem 1 z (some e.joinKey)
      else if !slotUsable s i then refuseJoin s chan stem 2 z (some e.joinKey)
      else
        let (y, t) := nonce8 s
        let (c, u) := newConn t i
        let body := bytesOf 1 i ++ bytesOf 4 c.interval ++ bytesOf 4 (c.anchor0.toNat - ticks u - syncTicks u) ++ bytesOf 8 c.map ++ bytesOf 1 c.first
          ++ bytesOf 1 c.h ++ bytesOf 1 c.b ++ bytesOf 1 c.s ++ bytesOf 1 (radioSca u) ++ bytesOf 8 y
        crownJoin (sendAt u 0x34 chan (joinRspPayload e.joinKey stem 0 z body)) i e (linkKey e.joinKey y z) ((l[16]?).getD 0).toNat
          (natOf ((l.drop 17).take 2)) c

/-- JOIN_REQ (R621): a crown answers the first intact one after each beacon. -/
def execJoinReq (sender : BitVec 64) (f : AirFrame) (s : State) : Res :=
  match s.radio.beaconOpen with
  | none => ok s
  | some chan =>
    when (mayTransmit s && isCrown s && decide (typeOf f = 2 ∨ ¬ airIntact f)) s fun s =>
      if !airIntact f then rxDrop s 2
      else if f.groveId.toNat ≠ ownGrove s then s
      else match openAir (obj s Obj.GroveNetworkKey) sender.toNat f with
        | none => micFail s
        | some l =>
          if l.length = 27 ∧ natOf (l.take 8) = sender.toNat then joinReqIn { s with radio := { s.radio with beaconOpen := none } } chan l else s

/-- The stem takes its place in the grove (R622, R623, R634). -/
def stemJoin (s : State) (j : JoinSt) (l : List Byte) : State :=
  let at_ : Nat → Nat → Nat := fun i n => natOf ((l.drop i).take n)
  let c : Conn := ⟨at_ 10 4, (ticks s : Int) + at_ 14 4, 0, at_ 27 1, at_ 28 1, at_ 29 1, at_ 18 8, at_ 26 1, none⟩
  let key := linkKey (obj s Obj.GroveJoinKey) (at_ 31 8) j.nonce
  let n : Nbr := { Nbr.fresh j.crown key with sca := at_ 30 1, lastTick := ticks s, heard := ticks s, contact := uptime s, conn := some c }
  let changed : Bool := decide (obj s Obj.GroveCrownIdentity ≠ j.crown)
  let t := (commitObjs (setNbr s 0 n) [(Obj.GroveCrownIdentity, j.crown), (Obj.GroveShortId, at_ 9 1)]).2
  let u := linkState { t with radio := { t.radio with grove := j.grove, join := none, scan := none, scanAfter := 0, backoff := 60 } } 3
  if changed then raise u 0x5304 else u

/-- JOIN_RSP past its MIC (R622, R623): for another device, nothing; a refusal is logged; a CMAC that fails changes nothing. -/
def joinRspIn (s : State) (j : JoinSt) (l : List Byte) : State :=
  let result := ((l[8]?).getD 0).toNat
  if l.length ≠ 47 ∨ natOf (l.take 8) ≠ obj s Obj.DeviceIdentity then s
  else if result ≠ 0 then raise (linkState { s with radio := { s.radio with join := none } } 1) 0x5302 [result]
  else if natOf (l.drop 39) ≠ Aes.cmac8 (obj s Obj.GroveJoinKey) (nums (l.take 39) ++ pl 8 j.nonce ++ [2]) then s
  else stemJoin s j l

/-- JOIN_RSP (R622). -/
def execJoinRsp (f : AirFrame) (s : State) : Res :=
  match s.radio.join with
  | none => ok s
  | some j =>
    when (listening s && isStem s && decide (typeOf f = 3 ∨ ¬ airIntact f)) s fun s =>
      if !airIntact f then rxDrop s 2
      else if f.groveId.toNat ≠ j.grove then s
      else match openAir (obj s Obj.GroveNetworkKey) j.crown f with
        | none => micFail s
        | some l => joinRspIn s j l

/-! ### Installer and compatibility -/

/-- The CMAC of an INSTALL frame (Table 17.10). -/
def installMac (s : State) (identity counter : Nat) : Nat := Aes.cmac8 (obj s (Obj.LevelKey 2)) (pl 8 identity ++ pl 4 counter ++ [2, 4])

/-- INSTALL (R587, R588): one frame after the WAKE heard in a transport window; an invalid one is discarded. -/
def execInstall (identity : BitVec 64) (counter : BitVec 32) (mac : BitVec 64) (s : State) : Res :=
  when (decide (s.pw.mode = .transport) && s.radio.installReady) s fun s =>
    let t := { s with radio := { s.radio with installReady := false } }
    if identity.toNat = obj s Obj.DeviceIdentity ∧ obj s Obj.InstallCounter < counter.toNat ∧ mac.toNat = installMac s identity.toNat counter.toNat then
      leaveTransportNow (commitObjs t [(Obj.InstallCounter, counter.toNat)]).2
    else t

/-- COMPAT_SND_UD (R605): in the response window of T2 or C2, the access is answered with RSP_UD. -/
def execCompatSndUd (op : Op) (f : Frame) (s : State) : Res :=
  if !(listening s && s.radio.compatWindow) then ok s
  else match frameIn s (.grove 256) op f false with
    | .next t => ok (pump { t with radio := { t.radio with compatWindow := false } })
    | x => x

end Sys2Proof.Machine
end

