-- ==== Sys2Proof/Machine/Dispatch.lean ====
section
/-! DEFINITION. One arm per command of the table, each a direct call of its meaning. -/

namespace Sys2Proof.Machine

def exec (i : Instr) (s : State) : Host.Outcome State Fault Refusal :=
  match i with
  | .read r f late => Sys2Proof.Machine.execRead r f late s
  | .write r f late => Sys2Proof.Machine.execWrite r f late s
  | .readNext r f late => Sys2Proof.Machine.execReadNext r f late s
  | .beginSeq r f => Sys2Proof.Machine.execBeginSeq r f s
  | .commit r f late => Sys2Proof.Machine.execCommit r f late s
  | .abort r f => Sys2Proof.Machine.execAbort r f s
  | .execObj r f late => Sys2Proof.Machine.execExecObj r f late s
  | .status r f => Sys2Proof.Machine.execStatus r f s
  | .nop r f => Sys2Proof.Machine.execNop r f s
  | .lockStage r op f => Sys2Proof.Machine.execLockStage r op f s
  | .lastCommit r op f late => Sys2Proof.Machine.execLastCommit r op f late s
  | .objectWrite r index sub data => Sys2Proof.Machine.execObjectWrite r index sub data s
  | .shadowDiscard r block => Sys2Proof.Machine.execShadowDiscard r block s
  | .heldResponseReady r tag => Sys2Proof.Machine.execHeldResponseReady r tag s
  | .authChallenge r => Sys2Proof.Machine.execAuthChallenge r s
  | .authResponse r level mac => Sys2Proof.Machine.execAuthResponse r level mac s
  | .authLockoutEnd r => Sys2Proof.Machine.execAuthLockoutEnd r s
  | .authLogout r => Sys2Proof.Machine.execAuthLogout r s
  | .sessionIdleExpiry r => Sys2Proof.Machine.execSessionIdleExpiry r s
  | .levelKeyWrite r level key => Sys2Proof.Machine.execLevelKeyWrite r level key s
  | .seal r => Sys2Proof.Machine.execSeal r s
  | .sealBreak r => Sys2Proof.Machine.execSealBreak r s
  | .rawProgram unit word value => Sys2Proof.Machine.execRawProgram unit word value s
  | .portReset p cause => Sys2Proof.Machine.execPortReset p cause s
  | .portResetRelease p cellRate => Sys2Proof.Machine.execPortResetRelease p cellRate s
  | .chipReset => Sys2Proof.Machine.execChipReset s
  | .chipResetRelease testHigh faults => Sys2Proof.Machine.execChipResetRelease testHigh faults s
  | .vioLoss testHigh faults => Sys2Proof.Machine.execVioLoss s testHigh faults
  | .vioRestored => Sys2Proof.Machine.execVioRestored s
  | .duskSave vbk sums => Sys2Proof.Machine.execDuskSave vbk sums s
  | .batteryInsertion offSeconds faults => Sys2Proof.Machine.execBatteryInsertion offSeconds faults s
  | .vbatValidInReadout offSeconds => Sys2Proof.Machine.execVbatValidInReadout offSeconds s
  | .startFromBusOrField bus field vnfcMv faults => Sys2Proof.Machine.execStartFromBusOrField bus field vnfcMv faults s
  | .brownOut => Sys2Proof.Machine.execBrownOut s
  | .batteryLow => Sys2Proof.Machine.execBatteryLow s
  | .gladeStop => Sys2Proof.Machine.execGladeStop s
  | .busValid => Sys2Proof.Machine.execBusValid s
  | .busLoss => Sys2Proof.Machine.execBusLoss s
  | .leaveTransport r => Sys2Proof.Machine.execLeaveTransport r s
  | .enterTransport r => Sys2Proof.Machine.execEnterTransport r s
  | .transportWindow => Sys2Proof.Machine.execTransportWindow s
  | .batteryReplaced r mAh => Sys2Proof.Machine.execBatteryReplaced r mAh s
  | .budgetHour => Sys2Proof.Machine.execBudgetHour s
  | .budgetSecond charge vnfc => Sys2Proof.Machine.execBudgetSecond charge s vnfc
  | .vcoreCanaryTest lowestPassing => Sys2Proof.Machine.execVcoreCanaryTest lowestPassing s
  | .lfSourceSwitch gap => Sys2Proof.Machine.execLfSourceSwitch gap s
  | .compensationTick dieTemp rateError check => Sys2Proof.Machine.execCompensationTick dieTemp rateError s check
  | .lfSourceReturn rateError => Sys2Proof.Machine.execLfSourceReturn rateError s
  | .lfSourceReset r => Sys2Proof.Machine.execLfSourceReset r s
  | .hfCrystalStable => Sys2Proof.Machine.execHfCrystalStable s
  | .hfStartFail => Sys2Proof.Machine.execHfStartFail s
  | .cclkStop => Sys2Proof.Machine.execCclkStop s
  | .hfMeasurementDone gate periods => Sys2Proof.Machine.execHfMeasurementDone gate periods s
  | .noonPass rise => Sys2Proof.Machine.execNoonPass rise s
  | .storeRequest q bytes change locked => Sys2Proof.Machine.execStoreRequest q bytes change locked s
  | .storeGrant => Sys2Proof.Machine.execStoreGrant s
  | .storePreempt => Sys2Proof.Machine.execStorePreempt s
  | .storeTransferEnd => Sys2Proof.Machine.execStoreTransferEnd s
  | .arbWatchdog => Sys2Proof.Machine.execArbWatchdog s
  | .arbLongWait q => Sys2Proof.Machine.execArbLongWait q s
  | .lockExpired r => Sys2Proof.Machine.execLockExpired r s
  | .arbiterFreeze r => Sys2Proof.Machine.execArbiterFreeze r s
  | .arbiterQuiesce r => Sys2Proof.Machine.execArbiterQuiesce r s
  | .arbiterRun r => Sys2Proof.Machine.execArbiterRun r s
  | .quiesceToFreeze => Sys2Proof.Machine.execQuiesceToFreeze s
  | .freezeExpired => Sys2Proof.Machine.execFreezeExpired s
  | .arbiterCommit r => Sys2Proof.Machine.execArbiterCommit r s
  | .arbConfigApplied => Sys2Proof.Machine.execArbConfigApplied s
  | .arbiterStatsClear r => Sys2Proof.Machine.execArbiterStatsClear r s
  | .journalWorkTaken => Sys2Proof.Machine.execJournalWorkTaken s
  | .recordProgrammed v => Sys2Proof.Machine.execRecordProgrammed v s
  | .erasePulseEnd erased => Sys2Proof.Machine.execErasePulseEnd erased s
  | .timerGrant epoch => Sys2Proof.Machine.execTimerGrant epoch s
  | .tdcCalibrationEnd epoch pair0 pair1 pair2 => Sys2Proof.Machine.execTdcCalibrationEnd epoch pair0 pair1 pair2 s
  | .tdcHit coarse count => Sys2Proof.Machine.execTdcHit coarse count s
  | .tdcOverflow => Sys2Proof.Machine.execTdcOverflow s
  | .timerGrantEnd samples edges => Sys2Proof.Machine.execTimerGrantEnd samples edges s
  | .timerPreempt => Sys2Proof.Machine.execTimerPreempt s
  | .finMeasurementStart => Sys2Proof.Machine.execFinMeasurementStart s
  | .finNoSignal => Sys2Proof.Machine.execFinNoSignal s
  | .tdcPairRetest r => Sys2Proof.Machine.execTdcPairRetest r s
  | .tdcSnapshotArm r v => Sys2Proof.Machine.execTdcSnapshotArm r v s
  | .cycleStartTick vbat vbk => Sys2Proof.Machine.execCycleStartTick s vbat vbk
  | .overrunCleared => Sys2Proof.Machine.execOverrunCleared s
  | .shotLaunch => Sys2Proof.Machine.execShotLaunch s
  | .cycleResults charge => Sys2Proof.Machine.execCycleResults charge s
  | .postponedLatchTaken => Sys2Proof.Machine.execPostponedLatchTaken s
  | .cycleSkipResync path up => Sys2Proof.Machine.execCycleSkipResync path up s
  | .pathShort path => Sys2Proof.Machine.execPathShort path s
  | .pathFailed path => Sys2Proof.Machine.execPathFailed path s
  | .pathRecovered path => Sys2Proof.Machine.execPathRecovered path s
  | .pathLowSignal path => Sys2Proof.Machine.execPathLowSignal path s
  | .templateCaptureFailed => Sys2Proof.Machine.execTemplateCaptureFailed s
  | .acousticCommit r => Sys2Proof.Machine.execAcousticCommit r s
  | .templateCapture r => Sys2Proof.Machine.execTemplateCapture r s
  | .sampleCaptureArm r v => Sys2Proof.Machine.execSampleCaptureArm r v s
  | .pathCheck r rise => Sys2Proof.Machine.execPathCheck r rise s
  | .flowCommit r => Sys2Proof.Machine.execFlowCommit r s
  | .zeroCalibrate r => Sys2Proof.Machine.execZeroCalibrate r s
  | .zeroCalibrated => Sys2Proof.Machine.execZeroCalibrated s
  | .zeroAdapting => Sys2Proof.Machine.execZeroAdapting s
  | .reverseFlow => Sys2Proof.Machine.execReverseFlow s
  | .reverseCleared => Sys2Proof.Machine.execReverseCleared s
  | .sosMismatch => Sys2Proof.Machine.execSosMismatch s
  | .conversionStart => Sys2Proof.Machine.execConversionStart s
  | .conversionEnd => Sys2Proof.Machine.execConversionEnd s
  | .standbyReleased role => Sys2Proof.Machine.execStandbyReleased role s
  | .sensorDisagree role => Sys2Proof.Machine.execSensorDisagree role s
  | .sensorRecovered port => Sys2Proof.Machine.execSensorRecovered port s
  | .portStale port => Sys2Proof.Machine.execPortStale port s
  | .temperatureCommit r => Sys2Proof.Machine.execTemperatureCommit r s
  | .heatCommit r => Sys2Proof.Machine.execHeatCommit r s
  | .lineCycleEnd period ph samples => Sys2Proof.Machine.execLineCycleEnd period ph s samples
  | .blockClose sums => Sys2Proof.Machine.execBlockClose sums s
  | .gainSwitch channelB to16 samples => Sys2Proof.Machine.execGainSwitch channelB to16 s samples
  | .currentOverload x => Sys2Proof.Machine.execCurrentOverload s x
  | .voltageExcursionStart uHalf => Sys2Proof.Machine.execVoltageExcursionStart uHalf s
  | .voltageExcursionEnd uHalf extreme halfCycles => Sys2Proof.Machine.execVoltageExcursionEnd uHalf extreme halfCycles s
  | .noLine => Sys2Proof.Machine.execNoLine s
  | .lineRestored => Sys2Proof.Machine.execLineRestored s
  | .elecCommit r => Sys2Proof.Machine.execElecCommit r s
  | .copReset r => Sys2Proof.Machine.execCopReset r s
  | .pulseEdgeCapture input level => Sys2Proof.Machine.execPulseEdgeCapture input level s
  | .pulseDebounceEnd input level otherLevel => Sys2Proof.Machine.execPulseDebounceEnd input level otherLevel s
  | .pulseHoldOffEnd input => Sys2Proof.Machine.execPulseHoldOffEnd input s
  | .wireCutCheck input level => Sys2Proof.Machine.execWireCutCheck input level s
  | .wireCutSample input level => Sys2Proof.Machine.execWireCutSample input level s
  | .wireCutMaskEnd input level => Sys2Proof.Machine.execWireCutMaskEnd input level s
  | .pulseOutEnd output => Sys2Proof.Machine.execPulseOutEnd output s
  | .pulseOutSpaceEnd output => Sys2Proof.Machine.execPulseOutSpaceEnd output s
  | .pulseCommit r => Sys2Proof.Machine.execPulseCommit r s
  | .rtcTimeSet r time => Sys2Proof.Machine.execRtcTimeSet r time s
  | .calendarSet r bcd => Sys2Proof.Machine.execCalendarSet r bcd s
  | .clockStep => Sys2Proof.Machine.execClockStep s
  | .rtcTimeAdjust r ms => Sys2Proof.Machine.execRtcTimeAdjust r ms s
  | .slewEnd => Sys2Proof.Machine.execSlewEnd s
  | .localOffsetWrite r v => Sys2Proof.Machine.execLocalOffsetWrite r v s
  | .offsetChanged => Sys2Proof.Machine.execOffsetChanged s
  | .weekdayAdvance => Sys2Proof.Machine.execWeekdayAdvance s
  | .weekdayWrite r v => Sys2Proof.Machine.execWeekdayWrite r v s
  | .alarmFire alarm => Sys2Proof.Machine.execAlarmFire alarm s
  | .alarmFlagsClear r v => Sys2Proof.Machine.execAlarmFlagsClear r v s
  | .periodicWake vbat vbk => Sys2Proof.Machine.execPeriodicWake vbat vbk s
  | .periodicWakeWrite r v => Sys2Proof.Machine.execPeriodicWakeWrite r v s
  | .backupBytesWrite r data => Sys2Proof.Machine.execBackupBytesWrite r data s
  | .calendarEnd => Sys2Proof.Machine.execCalendarEnd s
  | .disciplineLost => Sys2Proof.Machine.execDisciplineLost s
  | .latchNow r => Sys2Proof.Machine.execLatchNow r s
  | .billingBoundary => Sys2Proof.Machine.execBillingBoundary s
  | .tariffSwitchSecond => Sys2Proof.Machine.execTariffSwitchSecond s
  | .intervalEnd => Sys2Proof.Machine.execIntervalEnd s
  | .tariffCommit r => Sys2Proof.Machine.execTariffCommit r s
  | .errorFlagsStickyClear r v => Sys2Proof.Machine.execErrorFlagsStickyClear r v s
  | .irqStatusClear r v => Sys2Proof.Machine.execIrqStatusClear r v s
  | .marginSummaryUpdate => Sys2Proof.Machine.execMarginSummaryUpdate s
  | .lineBreak => Sys2Proof.Machine.execLineBreak s
  | .lysefIdle partialFrame => Sys2Proof.Machine.execLysefIdle partialFrame s
  | .lysefAccess addr hck op f late bufferFree => Sys2Proof.Machine.execLysefAccess addr hck op f late s bufferFree
  | .searchStart addr hck mode salt crc choices => Sys2Proof.Machine.execSearchStart addr hck mode salt crc choices s
  | .echo addr hck identity crc => Sys2Proof.Machine.execEcho addr hck identity crc s
  | .assign addr hck identity short crc => Sys2Proof.Machine.execAssign addr hck identity short crc s
  | .time addr hck stamp crc => Sys2Proof.Machine.execTime addr hck stamp crc s
  | .lysefShortAddressWrite r v => Sys2Proof.Machine.execLysefShortAddressWrite r v s
  | .lysefFullSearch r => Sys2Proof.Machine.execLysefFullSearch r s
  | .lysefNewSearch r => Sys2Proof.Machine.execLysefNewSearch r s
  | .lysefSearchPass answers => Sys2Proof.Machine.execLysefSearchPass answers s
  | .lysefMasterEcho answer => Sys2Proof.Machine.execLysefMasterEcho answer s
  | .lysefMasterAssign answer => Sys2Proof.Machine.execLysefMasterAssign answer s
  | .lysefNewPoll => Sys2Proof.Machine.execLysefNewPoll s
  | .lysefTimeBroadcast => Sys2Proof.Machine.execLysefTimeBroadcast s
  | .lysefBreakDeferExpiry => Sys2Proof.Machine.execLysefBreakDeferExpiry s
  | .lysefMasterSend r data answer => Sys2Proof.Machine.execLysefMasterSend r data answer s
  | .lysefDeviceLost addr => Sys2Proof.Machine.execLysefDeviceLost addr s
  | .lysefBusFault base => Sys2Proof.Machine.execLysefBusFault s base
  | .lysefFaultRetry => Sys2Proof.Machine.execLysefFaultRetry s
  | .spiTailFrame => Sys2Proof.Machine.execSpiTailFrame s
  | .inventory mode16 afi maskLen mask => Sys2Proof.Machine.execInventory mode16 afi maskLen mask s
  | .stayQuiet uid => Sys2Proof.Machine.execStayQuiet uid s
  | .select uid => Sys2Proof.Machine.execSelect uid s
  | .resetToReady mode => Sys2Proof.Machine.execResetToReady mode s
  | .getSystemInformation mode => Sys2Proof.Machine.execGetSystemInformation mode s
  | .vicinityAccess mode option mfr op f late form => Sys2Proof.Machine.execVicinityAccess mode option mfr op f late s form
  | .radioCommit r => Sys2Proof.Machine.execRadioCommit r s
  | .radioCommitApply => Sys2Proof.Machine.execRadioCommitApply s
  | .connectionEvent peer => Sys2Proof.Machine.execConnectionEvent peer s
  | .connectionEventEnd peer => Sys2Proof.Machine.execConnectionEventEnd peer s
  | .endOfTransmit => Sys2Proof.Machine.execEndOfTransmit s
  | .poll f => Sys2Proof.Machine.execPoll f s
  | .ack f => Sys2Proof.Machine.execAck f s
  | .dataAccessRequest f => Sys2Proof.Machine.execDataAccessRequest f s
  | .dataAccessResponse f => Sys2Proof.Machine.execDataAccessResponse f s
  | .dataTelegram f => Sys2Proof.Machine.execDataTelegram f s
  | .dataGroveTime f => Sys2Proof.Machine.execDataGroveTime f s
  | .dataMailbox f => Sys2Proof.Machine.execDataMailbox f s
  | .linkLost peer => Sys2Proof.Machine.execLinkLost peer s
  | .glance rssi => Sys2Proof.Machine.execGlance rssi s
  | .wake groveId target countdown => Sys2Proof.Machine.execWake groveId target countdown s
  | .dawnWakeReceive => Sys2Proof.Machine.execDawnWakeReceive s
  | .dawnTrain peer => Sys2Proof.Machine.execDawnTrain peer s
  | .install identity counter mac => Sys2Proof.Machine.execInstall identity counter mac s
  | .periodicTelegram => Sys2Proof.Machine.execPeriodicTelegram s
  | .bucketChange => Sys2Proof.Machine.execBucketChange s
  | .frameAged => Sys2Proof.Machine.execFrameAged s
  | .lbtListenEnd rssi => Sys2Proof.Machine.execLbtListenEnd rssi s
  | .lbtBackoffEnd => Sys2Proof.Machine.execLbtBackoffEnd s
  | .pllLockFail => Sys2Proof.Machine.execPllLockFail s
  | .pllRestEnd => Sys2Proof.Machine.execPllRestEnd s
  | .compatTelegram => Sys2Proof.Machine.execCompatTelegram s
  | .compatSndUd op f => Sys2Proof.Machine.execCompatSndUd op f s
  | .beaconInterval => Sys2Proof.Machine.execBeaconInterval s
  | .beacon sender f => Sys2Proof.Machine.execBeacon sender f s
  | .joinReq sender f => Sys2Proof.Machine.execJoinReq sender f s
  | .joinRsp f => Sys2Proof.Machine.execJoinRsp f s
  | .scanStart => Sys2Proof.Machine.execScanStart s
  | .scanEnd => Sys2Proof.Machine.execScanEnd s
  | .stemAdmit r identity key short => Sys2Proof.Machine.execStemAdmit r identity key short s
  | .stemRemove r identity => Sys2Proof.Machine.execStemRemove r identity s
  | .groveMapUpdate r map first => Sys2Proof.Machine.execGroveMapUpdate r map first s
  | .mapUpdated => Sys2Proof.Machine.execMapUpdated s
  | .connUpdate r map first instant => Sys2Proof.Machine.execConnUpdate r map first instant s
  | .groveSend r data => Sys2Proof.Machine.execGroveSend r data s
  | .mailboxOut r data => Sys2Proof.Machine.execMailboxOut r data s
  | .mailboxPop r => Sys2Proof.Machine.execMailboxPop r s
  | .transducerReplaceBegin r path => Sys2Proof.Machine.execTransducerReplaceBegin r path s
  | .transducerReplaceComplete r path rise => Sys2Proof.Machine.execTransducerReplaceComplete r path rise s
  | .transducerReplaceCancel r path => Sys2Proof.Machine.execTransducerReplaceCancel r path s
  | .sensorReplace r data => Sys2Proof.Machine.execSensorReplace r data s
  | .lfStartTestEnd stable => Sys2Proof.Machine.execLfStartTestEnd stable s
  | .vbkValid => Sys2Proof.Machine.execVbkValid s
  | .finGateEnd => Sys2Proof.Machine.execFinGateEnd s
  | .lysefMasterEnable r v => Sys2Proof.Machine.execLysefMasterEnable r v s
  | .lysefCellRateChange r v => Sys2Proof.Machine.execLysefCellRateChange r v s
  | .groveSendTimeout => Sys2Proof.Machine.execGroveSendTimeout s

end Sys2Proof.Machine
end

