-- ==== Sys2Proof/Safety.lean ====
section
/-! DEFINITION. The words the claims are written in: a well-formed image, a step that completes, what a command may touch, a route that is ready for a host. -/

namespace Sys2Proof.Machine

/-- Does a list of object values hold no entry equal to its default? -/
def noDefaults (c : OrderCode) (m : NMap Nat) : Bool := m.all (fun e => decide (e.2 ≠ dfltOf c e.1))

/-- The store image in its one canonical form: keys strictly rising, no entry equal to what an unlisted object reads as. -/
def State.imageWf (s : State) : Bool := rising s.img && noDefaults s.code s.img

/-- Every route's session stands at one of the levels L0 to L4 (R142). -/
def State.levelsWf (s : State) : Bool := s.ports.sessions.all (fun e => decide (e.2.level ≤ 4))

/-- A command completes at a state: `exec` answers a next state, and that state is as said. -/
def Runs (c : Instr) (s : State) (P : State → Prop) : Prop := ∃ t, exec c s = .next t ∧ P t

/-- The parts of the state beside the objects' active values. -/
inductive Part where
  | shadow | pend | pw | clk | rtc | ports | pads | front | flash | tally | accs | tdc | acou | flow | temp | elec | pulse | ly | lm | radio | free
deriving DecidableEq, Repr

/-- Two states agree on a part. -/
def Part.same (p : Part) (s t : State) : Prop :=
  match p with
  | .shadow => t.shadow = s.shadow
  | .pend => t.pend = s.pend ∧ t.pendBlocks = s.pendBlocks
  | .pw => t.pw = s.pw
  | .clk => t.clk = s.clk
  | .rtc => t.rtc = s.rtc
  | .ports => t.ports = s.ports
  | .pads => t.pads = s.pads
  | .front => t.front = s.front
  | .flash => t.flash = s.flash
  | .tally => t.tally = s.tally
  | .accs => t.accs = s.accs
  | .tdc => t.tdc = s.tdc
  | .acou => t.acou = s.acou
  | .flow => t.flow = s.flow
  | .temp => t.temp = s.temp
  | .elec => t.elec = s.elec
  | .pulse => t.pulse = s.pulse
  | .ly => t.ly = s.ly
  | .lm => t.lm = s.lm
  | .radio => t.radio = s.radio
  | .free => t.free = s.free

/-- Is a key in one of the ranges? -/
def inKeys (ks : List (Nat × Nat)) (k : Nat) : Bool := ks.any (fun e => decide (e.1 ≤ k) && decide (k ≤ e.2))

/-- Between two states at most the objects in the key ranges and the parts named differ. -/
def Only (ks : List (Nat × Nat)) (ps : List Part) (s t : State) : Prop :=
  t.code = s.code ∧ t.pending = s.pending ∧ (∀ k, inKeys ks k = false → obj t k = obj s k) ∧ ∀ p, p ∉ ps → p.same s t

/-- Objects an event may move (R481, R482, R485, R570): `ErrorFlags` and its sticky word, `IrqStatus`, `EventsLost`, `TxDropCount`:01. -/
def eventKeys : List (Nat × Nat) :=
  [(Obj.ErrorFlags, Obj.ErrorFlags), (Obj.ErrorFlagsSticky, Obj.ErrorFlagsSticky), (Obj.IrqStatus, Obj.IrqStatus), (Obj.EventsLost, Obj.EventsLost),
   (Obj.TxDropCount 1, Obj.TxDropCount 1)]

/-- Parts an event may move: the event queue, the transmit queue of the alarm telegram, and CCLK, which queued work starts (R111, R485, R570). -/
abbrev eventParts : List Part := [.tally, .radio, .clk]

/-- Is there room for eight events in the queue of sixteen, and a store that is not read-only (R485, R492)? -/
def eventRoom (s : State) : Bool := decide (s.tally.eventQ.length ≤ 8) && decide (obj s Obj.StoreStage ≠ 2)

/-- An event with code and payload, raised at a binary time, is in the event queue (Table 14.6). -/
def queued (t : State) (code time : Nat) (payload : List Nat) : Bool := t.tally.eventQ.contains ⟨code, time, payload⟩

/-- The status a route was answered last. -/
def answered (t : State) (r : Route) : Option Nat := (mfind t.ports.out r.num).map (·.status)

/-- Is a route open to an access now: the port answers, the core runs with the store writable and outside readout mode, no freeze, no arbiter configuration
on its way, no transfer and no waiting request at the store front before it, and a store tag to be had (Table 05.6 checks 1 and 4, R230, R240, R242,
R254)? -/
def routeOpen (s : State) (r : Route) : Bool :=
  portUp s r && s.pw.storeOpen && decide (s.pw.mode ≠ .readout) && decide (obj s Obj.StoreStage ≠ 2) && decide (obj s Obj.ArbiterFreeze = 0)
    && !pendingOf s .arbiter && s.front.xfer.isNone && s.front.waiting.isEmpty && mayTakeTag s r.requester

/-- A host may send a command over a route: it is open, holds no open sequence, its next tag is free, and its session stands at a level or above. -/
def hostReady (s : State) (r : Route) (level : Nat) : Bool :=
  routeOpen s r && (seqOf s r).isNone && (mfind s.ports.tags (tagSlot r (nextTag s r))).isNone && decide (level ≤ (session s r).level)

/-- Does a route answer a request, in whatever mode and whatever the arbiter's freeze: the port up, the store open, a store tag to be had (checks 1 and 4)? -/
def routeAnswers (s : State) (r : Route) : Bool := portUp s r && s.pw.storeOpen && mayTakeTag s r.requester

/-- Such a route with the host's next tag free. -/
def hostAnswers (s : State) (r : Route) : Bool := routeAnswers s r && (mfind s.ports.tags (tagSlot r (nextTag s r))).isNone

/-- Has the core acknowledged a host port's previous frame, so that its input buffer takes this one (R118)? A Grove peer's frame comes through the MAC. -/
def bufferTakes (r : Route) (f : Frame) : Bool := r.requester.host.isNone || f.bufferFree

/-- A frame that passes checks 2 to 4 of Table 05.6 on an open route: CRC, form, tag free; the port's input buffer takes it. -/
def frameOk (s : State) (r : Route) (op : Op) (f : Frame) : Bool :=
  routeOpen s r && bufferTakes r f && (mfind s.ports.tags (tagSlot r f.tag.toNat)).isNone && crcGood op f && formGood op f

/-- Such a frame without flags, where the route holds no open sequence. -/
def frameReady (s : State) (r : Route) (op : Op) (f : Frame) : Bool := frameOk s r op f && decide (f.flags = 0) && (seqOf s r).isNone

/-- The command that brings an access frame with an opcode (Table 05.4). -/
def frameCommand (op : Op) (r : Route) (f : Frame) (late : Bool) : Instr :=
  match op with
  | .read => .read r f late
  | .write => .write r f late
  | .readNext => .readNext r f late
  | .beginSeq => .beginSeq r f
  | .commit => .commit r f late
  | .abort => .abort r f
  | .exec => .execObj r f late
  | .status => .status r f
  | .nop => .nop r f

/-- The state in which an access frame meets the checks from check 4 on: CCLK runs, the session's idle count starts again. -/
def arrived (s : State) (r : Route) (f : Frame) : State := touch (startCclk (openTransaction s r f.sckHigh)) r f

/-- Key an access frame addresses. -/
def frameKey (f : Frame) : Nat := f.index.toNat * 256 + f.sub.toNat

/-- Do the level, the seal and the key rule let a route write an object (R139, R149, R153, R154)? -/
def mayStore (s : State) (r : Route) (d : ObjDef) : Bool :=
  decide (d.level ≤ (session s r).level)
    && (!d.m || decide (obj s Obj.SealState ≠ 1) && (decide (obj s Obj.SealState ≠ 2) || decide (4 ≤ (session s r).level)))
    && !(carriesKey d.index && decide (r = .lysef))

/-- The store front took one stamp more, or none, and changed nowhere else (R226). -/
def Stamped (taken : Bool) (s t : State) : Prop := t.front = if taken then { s.front with seq := (s.front.seq + 1) % 256 } else s.front

/-- RW objects whose WRITE does more than store the value: each chapter gives what. -/
def specialWrites : List Nat :=
  [Obj.ArbiterFreeze, Obj.IrqStatus, Obj.ErrorFlagsSticky, Obj.AlarmFlags, Obj.LocalOffset, Obj.PeriodicWake, Obj.RtcRateTrim, Obj.Xl2Fitted,
   Obj.TrickleCurrent, Obj.ZeroOffsetLimit, Obj.DailyBoundaryTime, Obj.BillingDay, Obj.LysefShortAddress, Obj.LysefMasterEnable, Obj.LysefCellRate]

/-- Objects whose value bounds another's (R8, R63, R339). -/
def pairedLimits : List Nat := [Obj.VduskThreshold, Obj.VbatLowThreshold, Obj.LowFlowCutoff, Obj.ZeroAdaptFlow]

/-- A staged WRITE of an RW object that does no more than store its value, and whose checks look at no other object's value: staged by a route that may write
it, with data of the object's size and in its range. -/
def plainStaged (s : State) (r : Route) (e : Staged) : Bool :=
  match lookup s.code (e.key / 256) (e.key % 256) with
  | .obj d => decide (d.kind = .rw) && mayStore s r d && !e.exec && decide (e.data.length = d.size) && inRange s d e.key (natOf e.data)
      && !specialWrites.contains e.key && !pairedLimits.contains e.key && decide (e.key ≠ Obj.SealState)
  | _ => false

/-- X objects whose action has no condition of its own, so that it runs on every value in their range (R138). -/
def plainActions : List Nat :=
  [Obj.EnterTransport, Obj.LfSourceReset, Obj.TdcPairRetest, Obj.TdcSnapshotArm, Obj.TemplateCapture, Obj.SampleCaptureArm, Obj.PathCheck,
   Obj.ZeroCalibrate, Obj.CopReset, Obj.LatchNow, Obj.ArbiterStatsClear]

/-- Is there room for a response on its way to a Grove peer (R598)? A host port always has it. -/
def routeRoom (s : State) (r : Route) (x : Resp) : Bool :=
  match r with
  | .grove p => responseRoom s p (respBytes x)
  | _ => true

/-- The command that writes 0x01 to a block's commit object. -/
def commitCommand (b : Block) (r : Route) : Instr :=
  match b with
  | .acoustic => .acousticCommit r
  | .flow => .flowCommit r
  | .temperature => .temperatureCommit r
  | .heat => .heatCommit r
  | .elec => .elecCommit r
  | .pulse => .pulseCommit r
  | .tariff => .tariffCommit r
  | .arbiter => .arbiterCommit r
  | .radio => .radioCommit r

/-- Is a block's commit object present on the ordering code (R6)? -/
def blockPresent (c : OrderCode) (b : Block) : Bool :=
  match b with
  | .heat => decide (c ≠ .gs)
  | .elec => decide (c = .le)
  | _ => true

/-- Is room left for a latch: fewer than four in the tally latch FIFO, none postponed (R486)? -/
def latchRoom (s : State) : Bool := decide (s.tally.fifo.length < 4) && s.tally.postponed.isNone

/-- A frame on air that a connection accepts: heard in the open event of peer p with a good form and MIC under the neighbour's key (`pay` is its payload),
a new counter, no resynchronisation on either side, no frame of ours waiting for its answer, and room for it (R572 to R578, R599). -/
def airReady (s : State) (p : Nat) (n : Nbr) (f : AirFrame) (pay : List Byte) : Bool :=
  listening s && airIntact f && decide (sourceOf s f = some p) && decide (s.radio.event = some p) && decide (nbr s p = some n)
    && decide (openAir n.key n.identity f = some pay) && !n.resync && !f.control.getLsbD 0 && decide (n.rx < f.counter.toNat) && !s.radio.await
    && rxRoom s f p pay

/-- Bits of a Lysef frame behind its sync cell, as the slave decodes its cells (R497, R501). -/
def lyBits (cells : List LyCell) : List Bool :=
  match cells with
  | [] => []
  | c :: rest => cellBits (c.space + c.mark) rest

/-- Bytes of such a frame. -/
def lyBytes (cells : List LyCell) : List Byte := bytesOfBits (lyBits cells)

/-- Header, mode, salt and CRC of SEARCH_START: its first 14 bytes. -/
def searchBytes (cells : List LyCell) : List Byte := bytesOfBits ((lyBits cells).take 112)

/-- Did a slave receive a command frame to address 0 intact, with n payload bytes before its CRC (R502, R503, Table 15.4)? -/
def cmdIntact (s : State) (b : List Byte) (cmd n : Nat) : Bool :=
  decide (lyHeader s b cmd false = .mine) && decide (n + 5 ≤ b.length) && decide (crc16 (b.take (n + 3)) = natOf ((b.drop (n + 3)).take 2))

/-- Every Lysef frame that reaches the slave engine shows its rate (R499). -/
def rateKeys : List (Nat × Nat) := [(Obj.LysefCellRateSeen, Obj.LysefCellRateSeen)]

/-- The count one up, modulo 2³². -/
def next32 (n : Nat) : Nat := (n + 1) % 2 ^ 32

end Sys2Proof.Machine
end

