-- ==== Sys2Proof/Certificates/Slice0/Obligations.lean ====
section
/-! DEFINITION. The statements for the provers. -/

open Sys2Proof Sys2Proof.Machine

/-! ### The step -/

/-- The front command of the queue runs, on the state with the queue's rest (first in, first out). -/
def Obligations.StepRunsFrontCommand : Prop :=
  ∀ (c : Instr) (rest : List Instr) (s : State),
    Machine.step { s with pending := c :: rest } = Machine.exec c { s with pending := rest }

/-- R428: on an empty queue one LF edge passes (the model's choice, log entry 3). While the glade domain runs both counts advance by D, binary time by the
slew's ± part beside it; a slew with less left moves by what is left (R438). -/
def Obligations.EmptyQueueIsOneLfEdge : Prop :=
  ∀ (s : State), s.pending = [] →
    (gladeRuns s = false → Machine.step s = .next s) ∧
    (gladeRuns s = true →
      ∃ t, Machine.step s = .next t ∧
        t.rtc.tk = s.rtc.tk + (2 ^ 33 + roundDiv (2 ^ 33 * objI 4 s Obj.RtcTotalTrim) (10 ^ 8)).toNat ∧
        (s.rtc.slew = 0 →
          t.rtc.bin = ((s.rtc.bin : Int) + (2 ^ 33 + roundDiv (2 ^ 33 * objI 4 s Obj.RtcTotalTrim) (10 ^ 8))).toNat) ∧
        (0 < s.rtc.slew → roundDiv (2 ^ 33 * obj s Obj.SlewRate) (10 ^ 6) ≤ s.rtc.slew →
          t.rtc.bin = ((s.rtc.bin : Int) + (2 ^ 33 + roundDiv (2 ^ 33 * objI 4 s Obj.RtcTotalTrim) (10 ^ 8))
            + roundDiv (2 ^ 33 * obj s Obj.SlewRate) (10 ^ 6)).toNat) ∧
        (s.rtc.slew < 0 → s.rtc.slew ≤ -roundDiv (2 ^ 33 * obj s Obj.SlewRate) (10 ^ 6) →
          t.rtc.bin = ((s.rtc.bin : Int) + (2 ^ 33 + roundDiv (2 ^ 33 * objI 4 s Obj.RtcTotalTrim) (10 ^ 8))
            - roundDiv (2 ^ 33 * obj s Obj.SlewRate) (10 ^ 6)).toNat))

/-- No command faults, the only refusal is an access to the factory range at L4 (Table 05.7), and no command changes the ordering code or the commands that
wait behind it. The refusal is listed under 'Stops' in NOTES.md. -/
def Obligations.CommandOutcomes : Prop :=
  ∀ (c : Instr) (s t : State) (x : Fault) (y : Refusal),
    Machine.exec c s ≠ .fault x ∧ (Machine.exec c s = .refused y → y = .factoryUndescribed) ∧
    (Machine.exec c s = .next t → t.code = s.code ∧ t.pending = s.pending)

/-- Every step keeps the store image in its canonical form: keys strictly rising, no entry equal to its default. -/
def Obligations.ImageStaysCanonical : Prop :=
  ∀ (s t : State), s.imageWf = true → Machine.step s = .next t → t.imageWf = true

/-- The machine after reset has a canonical image and every session at a level of R142. -/
def Obligations.ResetIsWellFormed : Prop := State.reset.imageWf = true ∧ State.reset.levelsWf = true

/-- Every step keeps each route's session at one of the levels L0 to L4 (R142, R144, R145). -/
def Obligations.SessionLevelsStayLegal : Prop :=
  ∀ (s t : State), s.levelsWf = true → Machine.step s = .next t → t.levelsWf = true

/-- R158: the CRC over a frame followed by its own CRC, high byte first, is 0. -/
def Obligations.CrcOfFrameAndItsCrcIsZero : Prop :=
  ∀ (b : List Byte), crc16 (b ++ bytesOf 2 (crc16 b)) = 0

/-! ### Access frames -/

/-- READ and READ_NEXT of a stored object (R134, R138, R160, R162): up to 240 bytes of its value, most significant first, from the offset; no object changes.
A late result is PENDING, its request waiting at the store front (R166, R226). -/
def Obligations.ReadShowsTheImage : Prop :=
  ∀ (s : State) (r : Route) (f : Frame) (d : ObjDef), lookup s.code f.index.toNat f.sub.toNat = .obj d → d.kind = .rw ∨ d.kind = .rwc →
    (frameReady s r .read f = true →
      Runs (.read r f false) s fun t =>
        mfind t.ports.out r.num = some ⟨stOk, f.tag.toNat, f.index.toNat, f.sub.toNat, (bytesOf d.size (obj s (frameKey f))).take 240⟩ ∧
        Stamped (!grantFree false f.index.toNat) s t ∧ Only [] [.ports, .front, .clk, .radio] s t) ∧
    (frameReady s r .readNext f = true → f.data.length = 2 → natOf f.data ≤ d.size →
      Runs (.readNext r f false) s fun t =>
        mfind t.ports.out r.num =
          some ⟨stOk, f.tag.toNat, f.index.toNat, f.sub.toNat, ((bytesOf d.size (obj s (frameKey f))).drop (natOf f.data)).take 240⟩ ∧
        Stamped (!grantFree false f.index.toNat) s t ∧ Only [] [.ports, .front, .clk, .radio] s t) ∧
    (frameReady s r .read f = true → grantFree false f.index.toNat = false →
      Runs (.read r f true) s fun t =>
        answered t r = some stPending ∧ (mfind t.ports.tags (tagSlot r f.tag.toNat)).isSome = true ∧
        t.front.waiting.length = s.front.waiting.length + 1 ∧ Only [] [.ports, .clk, .front] s t)

/-- WRITE of an RW object whose write does nothing more (R138, R134): the object holds the value, big-endian, nothing else of the dictionary moves. The same
of OBJECT_WRITE, whose frame the host builds. -/
def Obligations.WriteStoresTheValue : Prop :=
  ∀ (s : State) (r : Route) (f : Frame) (index : BitVec 16) (sub : Byte) (data : List Byte) (d : ObjDef), d.kind = .rw → mayStore s r d = true →
    (lookup s.code f.index.toNat f.sub.toNat = .obj d → specialWrites.contains (frameKey f) = false → f.data.length = d.size →
      inRange s d (frameKey f) (natOf f.data) = true → frameReady s r .write f = true →
      Runs (.write r f false) s fun t =>
        answered t r = some stOk ∧ obj t (frameKey f) = natOf f.data ∧ Stamped true s t ∧
        Only [(frameKey f, frameKey f)] [.ports, .front, .clk, .flash, .radio] s t) ∧
    (lookup s.code index.toNat sub.toNat = .obj d → specialWrites.contains (index.toNat * 256 + sub.toNat) = false → data.length = d.size →
      d.size ≤ 240 → inRange s d (index.toNat * 256 + sub.toNat) (natOf data) = true → hostReady s r 0 = true →
      Runs (.objectWrite r index sub data) s fun t =>
        answered t r = some stOk ∧ obj t (index.toNat * 256 + sub.toNat) = natOf data ∧ Stamped true s t ∧
        Only [(index.toNat * 256 + sub.toNat, index.toNat * 256 + sub.toNat)] [.ports, .front, .clk, .flash, .radio] s t)

/-- R137, R136, R139, R153, R138 in the order of Table 05.6 (R180): what turns a WRITE away changes no object and is answered with its status. -/
def Obligations.RefusedWritesChangeNothing : Prop :=
  ∀ (s : State) (r : Route) (f : Frame), frameReady s r .write f = true → actsAtOnce f.index.toNat = false →
    (∀ d, lookup s.code f.index.toNat f.sub.toNat = .obj d → d.kind = .r →
      Runs (.write r f false) s fun t => answered t r = some stReadOnly ∧ Only [] [.ports, .clk, .radio] s t) ∧
    (∀ d, lookup s.code f.index.toNat f.sub.toNat = .obj d → d.kind ≠ .r → (session s r).level < d.level →
      Runs (.write r f false) s fun t => answered t r = some stDenied ∧ Only [] [.ports, .clk, .radio] s t) ∧
    (∀ d, lookup s.code f.index.toNat f.sub.toNat = .obj d → d.kind ≠ .r → d.m = true → obj s Obj.SealState = 1 → allowed s r d f.index.toNat = true →
      Runs (.write r f false) s fun t => answered t r = some stSealed ∧ Only [] [.ports, .clk, .radio] s t) ∧
    (∀ d, lookup s.code f.index.toNat f.sub.toNat = .obj d → d.kind ≠ .r → allowed s r d f.index.toNat = true →
      (d.m = true → obj s Obj.SealState ≠ 1) → f.data.length ≠ d.size →
      Runs (.write r f false) s fun t => answered t r = some stType ∧ Only [] [.ports, .clk, .radio] s t) ∧
    (∀ d, lookup s.code f.index.toNat f.sub.toNat = .obj d → d.kind ≠ .r → allowed s r d f.index.toNat = true →
      (d.m = true → obj s Obj.SealState ≠ 1) → f.data.length = d.size → inRange s d (frameKey f) (natOf f.data) = false →
      Runs (.write r f false) s fun t => answered t r = some stRange ∧ Only [] [.ports, .clk, .radio] s t)

/-- R185: a frame that fails the CRC or form check, whatever its opcode, is answered CRC or FRAME with tag 0xFF, index 0x0000, sub-index 0 and length 0. It has no
effect: no session, sequence, tag or object moves but the port's count of such frames (R503, R558). -/
def Obligations.BadFramesHaveNoEffect : Prop :=
  ∀ (s : State) (r : Route) (op : Op) (f : Frame) (late : Bool), portUp s r = true → s.pw.storeOpen = true →
    (crcGood op f = false → f.len.toNat ≤ 240 ∨ r ≠ .spi →
      Runs (frameCommand op r f late) s fun t =>
        mfind t.ports.out r.num = some ⟨stCrc, 0xFF, 0, 0, []⟩ ∧ t.ports.sessions = s.ports.sessions ∧ t.ports.seqs = s.ports.seqs ∧
        t.ports.tags = s.ports.tags ∧
        Only [(Obj.SpiFrameErrors, Obj.SpiFrameErrors), (Obj.VicinityFrameErrors, Obj.VicinityFrameErrors)] [.ports, .clk, .radio] s t) ∧
    (crcGood op f = true ∧ formGood op f = false ∨ r = .spi ∧ 240 < f.len.toNat →
      Runs (frameCommand op r f late) s fun t =>
        mfind t.ports.out r.num = some ⟨stFrame, 0xFF, 0, 0, []⟩ ∧ t.ports.sessions = s.ports.sessions ∧ t.ports.seqs = s.ports.seqs ∧
        t.ports.tags = s.ports.tags ∧
        Only [(Obj.SpiFrameErrors, Obj.SpiFrameErrors), (Obj.VicinityFrameErrors, Obj.VicinityFrameErrors)] [.ports, .clk, .radio] s t)

/-- R140: a WRITE of an RWC object reaches its shadow alone; 0x01 to the block's commit object moves the block's shadows into its pending set, and no active
value changes before the block's instant (a running zero calibration ends with an event: R353); SHADOW_DISCARD drops both. -/
def Obligations.ShadowsWaitForTheirCommit : Prop :=
  ∀ (s : State) (r : Route) (f : Frame) (d : ObjDef) (b : Block) (k v : Nat),
    (lookup s.code f.index.toNat f.sub.toNat = .obj d → d.kind = .rwc → mayStore s r d = true → f.data.length = d.size →
      inRange s d (frameKey f) (natOf f.data) = true → frameReady s r .write f = true →
      Runs (.write r f false) s fun t =>
        answered t r = some stOk ∧ mfind t.shadow (frameKey f) = some (natOf f.data) ∧ Only [] [.shadow, .ports, .front, .clk, .radio] s t) ∧
    (hostReady s r 3 = true → blockPresent s.code b = true → blockOk s b = true → rising s.shadow = true →
      Runs (commitCommand b r) s fun t =>
        answered t r = some stOk ∧ pendingOf t b = true ∧
        (blockOf k = some b → mfind t.shadow k = none ∧ (mfind s.shadow k = some v → mfind t.pend k = some v)) ∧
        (blockOf k ≠ some b → mfind t.shadow k = mfind s.shadow k) ∧
        Only eventKeys [.shadow, .pend, .flow, .tally, .ports, .front, .clk, .flash, .radio] s t) ∧
    (hostReady s r 3 = true → blockPresent s.code b = true →
      Runs (.shadowDiscard r b) s fun t =>
        answered t r = some stOk ∧ pendingOf t b = false ∧
        (blockOf k = some b → mfind t.shadow k = none ∧ mfind t.pend k = none) ∧
        (blockOf k ≠ some b → mfind t.shadow k = mfind s.shadow k ∧ mfind t.pend k = mfind s.pend k) ∧
        Only [] [.shadow, .pend, .ports, .front, .clk, .radio] s t)

/-- R170, R172, R173: BEGIN opens a sequence; an access with LOCK is staged without touching the image, and a READ with LOCK shows the route's own staged
value. -/
def Obligations.SequencesStage : Prop :=
  ∀ (s : State) (r : Route) (f : Frame) (q : Seq) (l : List Staged) (v : List Byte),
    (frameReady s r .beginSeq f = true → mfind s.ports.seqs r.slot = none →
      Runs (.beginSeq r f) s fun t => answered t r = some stOk ∧ seqOf t r = some ⟨r, [], 0⟩ ∧ Only [] [.ports, .clk, .radio] s t) ∧
    (frameOk s r .write f = true → f.flags = 1 → seqOf s r = some q → actsAtOnce f.index.toNat = false →
      (writeCheck (overlay (arrived s r f) r q.staged) r false f.index.toNat f.sub.toNat f.data).1 = stOk →
      pastLimits s (q.staged ++ [⟨false, frameKey f, f.data⟩]) = false →
      Runs (.lockStage r .write f) s fun t =>
        answered t r = some stOk ∧ seqOf t r = some ⟨r, q.staged ++ [⟨false, frameKey f, f.data⟩], 0⟩ ∧ Only [] [.ports, .front, .clk, .radio] s t) ∧
    (∀ d, frameOk s r .read f = true → f.flags = 1 → seqOf s r = some q → q.staged = l ++ [⟨false, frameKey f, v⟩] →
      lookup s.code f.index.toNat f.sub.toNat = .obj d → d.kind = .rw ∨ d.kind = .rwc → v.length ≤ 240 →
      Runs (.lockStage r .read f) s fun t =>
        mfind t.ports.out r.num = some ⟨stOk, f.tag.toNat, f.index.toNat, f.sub.toNat, v⟩ ∧ Only [] [.ports, .front, .clk, .radio] s t)

/-- R177: ABORT discards the staged accesses, closes the sequence and returns OK. -/
def Obligations.AbortDiscardsTheSequence : Prop :=
  ∀ (s : State) (r : Route) (f : Frame) (q : Seq), routeAnswers s r = true → bufferTakes r f = true → mfind s.ports.tags (tagSlot r f.tag.toNat) = none →
    crcGood .abort f = true → formGood .abort f = true → seqOf s r = some q →
    Runs (.abort r f) s fun t =>
      answered t r = some stOk ∧ mfind t.ports.seqs r.slot = none ∧ Only [] [.ports, .front, .clk, .radio] s t

/-- R175: COMMIT, and an access with LAST (R159), apply every staged access in order when all pass, and close the sequence; when one fails none is applied,
its status and address are the answer, and the sequence closes unless that status is BUSY (R176). A sequence of plain WRITEs commits whatever they hold, each
object with the last value staged for it. An EXEC outside a sequence runs its object's action (R138, R160); one whose action has no condition of its own always
does. A staged SEAL_BREAK answers when it is journalled (R156), a master role ends the Lysef slave that asks for it (R21). Staged accesses are checked in order
(log entry 40). -/
def Obligations.CommitAppliesAllOrNone : Prop :=
  ∀ (s u : State) (r : Route) (f : Frame) (q : Seq) (st k : Nat) (x : Bool),
    (frameOk s r .commit f = true → f.flags = 0 → seqOf s r = some q → q.staged.all (plainStaged s r) = true →
      Runs (.commit r f false) s fun t =>
        answered t r = some stOk ∧ seqOf t r = none ∧
        (∀ l e m, q.staged = l ++ e :: m → (∀ y ∈ m, y.key ≠ e.key) → obj t e.key = natOf e.data) ∧
        Only (q.staged.map fun e => (e.key, e.key)) [.ports, .front, .clk, .flash, .radio] s t) ∧
    (frameOk s r .write f = true → f.flags = 3 → seqOf s r = some q → pastLimits s (q.staged ++ [⟨false, frameKey f, f.data⟩]) = false →
      (q.staged ++ [(⟨false, frameKey f, f.data⟩ : Staged)]).all (plainStaged s r) = true →
      Runs (.lastCommit r .write f false) s fun t =>
        answered t r = some stOk ∧ seqOf t r = none ∧ obj t (frameKey f) = natOf f.data ∧
        (∀ l e m, q.staged = l ++ e :: m → (∀ y ∈ m, y.key ≠ e.key) → e.key ≠ frameKey f → obj t e.key = natOf e.data) ∧
        Only ((frameKey f, frameKey f) :: q.staged.map fun e => (e.key, e.key)) [.ports, .front, .clk, .flash, .radio] s t) ∧
    (∀ d, frameReady s r .exec f = true → lookup s.code f.index.toNat f.sub.toNat = .obj d → plainActions.contains (frameKey f) = true →
      mayStore s r d = true → f.data.length = d.size → inRange s d (frameKey f) (natOf f.data) = true →
      Runs (.execObj r f false) s fun t =>
        answered t r = some stOk ∧ Stamped true s t ∧
        ∃ n v, action (arrived s r f) r f.index.toNat f.data = (stOk, n, v) ∧ Only [] [.ports, .front, .clk, .flash, .radio] v t) ∧
    (frameOk s r .commit f = true → f.flags = 0 → seqOf s r = some q → applyStaged (arrived s r f) r q.staged = (stOk, k, u) →
      u.flash.breakTxn = s.flash.breakTxn → (r = .lysef → u.lm.running = false) →
      Runs (.commit r f false) s fun t => answered t r = some stOk ∧ seqOf t r = none ∧ Only [] [.ports, .front, .clk, .flash, .radio] u t) ∧
    (frameOk s r .commit f = true → f.flags = 0 → seqOf s r = some q → applyStaged (arrived s r f) r q.staged = (st, k, u) → st ≠ stOk →
      Runs (.commit r f false) s fun t =>
        mfind t.ports.out r.num = some ⟨st, f.tag.toNat, k / 256, k % 256, []⟩ ∧
        (seqOf t r).map (·.staged) = (if st = stBusy then some q.staged else none) ∧ Only [] [.ports, .front, .clk, .radio] s t) ∧
    (frameOk s r (if x then .exec else .write) f = true → f.flags = 3 → seqOf s r = some q → actsAtOnce f.index.toNat = false →
      (writeCheck (overlay (arrived s r f) r q.staged) r x f.index.toNat f.sub.toNat f.data).1 = stOk →
      pastLimits s (q.staged ++ [⟨x, frameKey f, f.data⟩]) = false →
      applyStaged (setSeq (arrived s r f) r ⟨r, q.staged ++ [⟨x, frameKey f, f.data⟩], 0⟩) r (q.staged ++ [⟨x, frameKey f, f.data⟩]) = (stOk, k, u) →
      u.flash.breakTxn = s.flash.breakTxn → (r = .lysef → u.lm.running = false) →
      Runs (.lastCommit r (if x then .exec else .write) f false) s fun t =>
        answered t r = some stOk ∧ seqOf t r = none ∧ Only [] [.ports, .front, .clk, .flash, .radio] u t) ∧
    (∀ d, frameReady s r .exec f = true → d.kind = .x →
      writeCheck (arrived s r f) r true f.index.toNat f.sub.toNat f.data = (stOk, some d) →
      carryOut (arrived s r f) r d (frameKey f) f.data = (stOk, u) → u.flash.breakTxn = s.flash.breakTxn → u.lm.running = s.lm.running →
      Runs (.execObj r f false) s fun t => answered t r = some stOk ∧ Only [] [.ports, .front, .clk, .flash, .radio] u t)

/-- R166, R169: STATUS hands out a held response and frees its tag; on a tag that holds nothing it returns OK with zeros; NOP returns OK; a result that crosses
into a host port is held under its tag, and an SPI one sets `IrqStatus` bit [5] (R482). -/
def Obligations.StatusCollectsHeldResponses : Prop :=
  ∀ (s : State) (r : Route) (f : Frame) (u : TagUse) (n tag : Nat) (x : Resp),
    (portUp s r = true → s.pw.storeOpen = true → crcGood .status f = true → formGood .status f = true →
      mfind s.ports.tags (tagSlot r f.tag.toNat) = some u → u.phase = .held n x → x.status ≠ stPending → routeRoom s r x = true →
      Runs (.status r f) s fun t =>
        mfind t.ports.out r.num = some x ∧ mfind t.ports.tags (tagSlot r f.tag.toNat) = none ∧ Only [] [.ports, .clk, .radio] s t) ∧
    (portUp s r = true → s.pw.storeOpen = true → crcGood .status f = true → formGood .status f = true →
      mfind s.ports.tags (tagSlot r f.tag.toNat) = none →
      Runs (.status r f) s fun t =>
        mfind t.ports.out r.num = some ⟨stOk, f.tag.toNat, 0, 0, []⟩ ∧
        (routeRoom s r ⟨stOk, f.tag.toNat, 0, 0, []⟩ = true → t.ports.tags = s.ports.tags) ∧ Only [] [.ports, .clk, .radio] s t) ∧
    (portUp s r = true → s.pw.storeOpen = true → crcGood .nop f = true → formGood .nop f = true →
      Runs (.nop r f) s fun t =>
        answered t r = some stOk ∧ (routeRoom s r ⟨stOk, f.tag.toNat, f.index.toNat, f.sub.toNat, []⟩ = true → t.ports.tags = s.ports.tags) ∧
        Only [] [.ports, .clk, .radio] s t) ∧
    (u.route = r → (r = .spi ∨ r = .lysef ∨ r = .vicinity) → u.phase = .done x → mfind s.ports.tags (tagSlot r tag) = some u →
      Runs (.heldResponseReady r tag) s fun t =>
        (mfind t.ports.tags (tagSlot r tag)).map (·.phase) = some (.held s.ports.heldOrder x) ∧ (r = .spi → getBit t Obj.IrqStatus 5 = true) ∧
        Only [(Obj.IrqStatus, Obj.IrqStatus)] [.ports] s t)

/-! ### Sessions, keys, the seal -/

/-- R143: a READ of `AuthChallenge` returns 8 bytes (free ones), then the route's one valid challenge. R145: a matching response sets the session to the
requested level; another one, or none valid, sets L0, counts and is DENIED (a third failure for one level within 600 s locks the route out: R147). The 8 bytes
are free values (log entry 5). -/
def Obligations.ChallengeAndResponse : Prop :=
  ∀ (s : State) (r : Route) (level : Byte) (mac : BitVec 64),
    (hostAnswers s r = true →
      Runs (.authChallenge r) s fun t =>
        (session t r).challenge = some (BitVec.ofNat 64 (Config.freeValue s.free)) ∧
        (mfind t.ports.out r.num).map (·.data) = some (bytesOf 8 (BitVec.ofNat 64 (Config.freeValue s.free)).toNat) ∧
        (session t r).level = (session s r).level ∧ Only [] [.ports, .clk, .radio, .free] s t) ∧
    (∀ c, hostAnswers s r = true → 1 ≤ level.toNat → level.toNat ≤ 4 → (session s r).locked = false → s.ports.keyFaults.contains level.toNat = false →
      (session s r).challenge = some c →
      mac.toNat = Aes.cmac8 (obj s (Obj.LevelKey level.toNat)) (pl 8 c.toNat ++ pl 8 (obj s Obj.DeviceIdentity) ++ [level.toNat, r.code]) →
      Runs (.authResponse r level mac) s fun t =>
        answered t r = some stOk ∧ (session t r).level = level.toNat ∧ (session t r).challenge = none ∧ Only [] [.ports, .clk, .radio] s t) ∧
    (hostAnswers s r = true → 1 ≤ level.toNat → level.toNat ≤ 4 → (session s r).locked = false → s.ports.keyFaults.contains level.toNat = false →
      (∀ c, (session s r).challenge = some c →
        mac.toNat ≠ Aes.cmac8 (obj s (Obj.LevelKey level.toNat)) (pl 8 c.toNat ++ pl 8 (obj s Obj.DeviceIdentity) ++ [level.toNat, r.code])) →
      Runs (.authResponse r level mac) s fun t =>
        answered t r = some stDenied ∧ (session t r).level = 0 ∧ (session t r).challenge = none ∧
        obj t (Obj.AuthFailCount level.toNat) = next32 (obj s (Obj.AuthFailCount level.toNat)) ∧
        (eventRoom s = true → obj s Obj.ArbiterFreeze = 0 → queued t 0x1010 (t48 s) [] = true) ∧
        Only ((Obj.AuthFailCount level.toNat, Obj.AuthFailCount level.toNat) :: eventKeys) [.ports, .clk, .flash, .tally, .radio] s t)

/-- R146: a session ends at a port reset of its route, at a logout, at a chip reset or dusk save, and after `SessionIdleLimit` without a frame; at a logout and at
the limit an open sequence stays (R239), and a freeze or quiesce the route has written ends (R246). A lockout ends once `AuthLockoutTime` has passed (R147). -/
def Obligations.SessionsEnd : Prop :=
  ∀ (s : State) (r q : Route) (vbk : Bool) (l : List ElecSample) (th : Bool) (faults : FlashFaults),
    (hostAnswers s r = true →
      Runs (.authLogout r) s fun t =>
        answered t r = some stOk ∧ (session t r).level = 0 ∧ (session t r).challenge = none ∧ t.ports.seqs = s.ports.seqs ∧
        (s.front.freezeBy ≠ some r → Only [] [.ports, .clk, .radio] s t)) ∧
    (hostAnswers s r = true → s.front.freezeBy = some r → obj s Obj.ArbiterFreeze ≠ 0 →
      Runs (.authLogout r) s fun t =>
        answered t r = some stOk ∧ obj t Obj.ArbiterFreeze = 0 ∧ t.front.freezeBy = none ∧
        Only ((Obj.ArbiterFreeze, Obj.ArbiterFreeze) :: eventKeys) [.ports, .front, .clk, .flash, .tally, .radio] s t) ∧
    (0 < (session s r).level ∨ (session s r).challenge ≠ none → obj s Obj.SessionIdleLimit * 32768 ≤ ticks s - (session s r).lastTick →
      Runs (.sessionIdleExpiry r) s fun t =>
        (session t r).level = 0 ∧ (session t r).challenge = none ∧ t.ports.seqs = s.ports.seqs ∧ t.ports.tags = s.ports.tags ∧
        (obj s Obj.ArbiterFreeze = 0 ∨ s.front.freezeBy ≠ some r → Only [] [.ports] s t) ∧
        (obj s Obj.ArbiterFreeze ≠ 0 → s.front.freezeBy = some r → obj t Obj.ArbiterFreeze = 0)) ∧
    (ticks s - (session s r).lastTick < obj s Obj.SessionIdleLimit * 32768 ∨ (session s r).level = 0 ∧ (session s r).challenge = none →
      Machine.exec (.sessionIdleExpiry r) s = .next s) ∧
    ((session s r).locked = true →
      (((session s r).fails.getLast?.map (·.2)).getD 0) + obj s Obj.AuthLockoutTime * 32768 ≤ ticks s →
      Runs (.authLockoutEnd r) s fun t =>
        (session t r).locked = false ∧ (session t r).level = (session s r).level ∧ (session t r).challenge = (session s r).challenge ∧
        Only [] [.ports] s t) ∧
    ((session s r).locked = false ∨
        ticks s < (((session s r).fails.getLast?.map (·.2)).getD 0) + obj s Obj.AuthLockoutTime * 32768 →
      Machine.exec (.authLockoutEnd r) s = .next s) ∧
    (s.ports.vioOk = true → portsDead s = false →
      Runs (.portReset .spi .midFrame) s fun t => (session t .spi).level = 0 ∧ (session t .spi).challenge = none) ∧
    (s.pw.bus = true → s.lm.running = false →
      Runs (.portReset .lysef .lineBreak) s fun t => (session t .lysef).level = 0 ∧ (session t .lysef).challenge = none) ∧
    (s.pw.field = true →
      Runs (.portReset .vicinity .fieldLoss) s fun t => (session t .vicinity).level = 0 ∧ (session t .vicinity).challenge = none) ∧
    (s.ports.vioOk = true → s.pw.mode ≠ .off → s.pw.mode ≠ .chipReset →
      Runs .chipReset s fun t => (session t q).level = 0 ∧ (session t q).challenge = none) ∧
    (s.pw.vbat = true → coreUp s = true →
      Runs (.duskSave vbk l) s fun t => (session t q).level = 0 ∧ (session t q).challenge = none) ∧
    (s.ports.vioOk = true →
      Runs (.portReset .spi .vioLoss) s fun t => (session t .spi).level = 0 ∧ (session t .spi).challenge = none) ∧
    (s.ports.vioOk = true → s.pw.mode ≠ .chipReset →
      Runs (.vioLoss th faults) s fun t => (session t .spi).level = 0 ∧ (session t .spi).challenge = none)

/-- R148, R149, R151, R154, R156: a key write stores the key and is logged; `Seal` keeps the checksum and the time and sets `SealState` 1; `SealBreak` counts, and
`SealState` becomes 2, with its event, when the journal holds the count. -/
def Obligations.KeysAndTheSeal : Prop :=
  ∀ (s : State) (r : Route) (level : Byte) (key : BitVec 128),
    (hostReady s r (if level.toNat = 4 then 4 else 3) = true → 1 ≤ level.toNat → level.toNat ≤ 4 → r ≠ .lysef →
      Runs (.levelKeyWrite r level key) s fun t =>
        answered t r = some stOk ∧ obj t (Obj.LevelKey level.toNat) = key.toNat ∧ t.ports.keyFaults.contains level.toNat = false ∧
        (eventRoom s = true → queued t 0x1012 (t48 s) [level.toNat] = true) ∧
        Only ((Obj.LevelKey level.toNat, Obj.LevelKey level.toNat) :: eventKeys) [.ports, .front, .clk, .flash, .tally, .radio] s t) ∧
    (hostReady s .lysef 4 = true → 1 ≤ level.toNat → level.toNat ≤ 4 →
      Runs (.levelKeyWrite .lysef level key) s fun t => answered t .lysef = some stDenied ∧ Only [] [.ports, .clk] s t) ∧
    (hostReady s r 3 = true → mShadow s = false →
      Runs (.seal r) s fun t =>
        answered t r = some stOk ∧ obj t Obj.SealState = 1 ∧ obj t Obj.SealTime = t48 s ∧ obj t Obj.MetrologyChecksum = metrologyChecksum s ∧
        (eventRoom s = true → queued t 0x1013 (t48 s) [] = true) ∧
        Only ([(Obj.SealState, Obj.SealState), (Obj.SealTime, Obj.SealTime), (Obj.MetrologyChecksum, Obj.MetrologyChecksum)] ++ eventKeys)
          [.ports, .front, .clk, .flash, .tally, .radio] s t) ∧
    (hostReady s r 3 = true → mShadow s = true →
      Runs (.seal r) s fun t => answered t r = some stRange ∧ Only [] [.ports, .clk, .radio] s t) ∧
    (hostReady s r 4 = true → (r = .spi ∨ r = .vicinity) → s.flash.nextTxn ≠ 0 → s.flash.breakTxn ≠ some s.flash.nextTxn →
      Runs (.sealBreak r) s fun t =>
        answered t r = some stPending ∧ obj t Obj.SealState = obj s Obj.SealState ∧ t.flash.breakTxn = some s.flash.nextTxn ∧
        obj t Obj.SealBreakCount = min (2 ^ 32 - 1) (obj s Obj.SealBreakCount + 1) ∧
        Only [(Obj.SealBreakCount, Obj.SealBreakCount)] [.ports, .front, .clk, .flash, .radio] s t) ∧
    (∀ rec_, s.flash.work = some (.record rec_) → s.flash.breakTxn = some rec_.txn → rec_.final = true → (programRec s rec_).isSome = true →
      Runs (.recordProgrammed .good) s fun t =>
        obj t Obj.SealState = 2 ∧ t.flash.breakTxn = none ∧ (eventRoom s = true → queued t 0x1014 (t48 s) [] = true))

/-! ### Host commands by family -/

/-- R50, R68, R96, R101: transport mode, a new battery, the LF source reset. Leaving where transport mode is not set cancels an armed one (the model's choice,
log entry 76); the RC's health after the reset is the model's reading of R101. -/
def Obligations.HostPowerCommands : Prop :=
  ∀ (s : State) (r : Route) (mAh : BitVec 32),
    (hostReady s r 2 = true → s.pw.mode = .transport → s.pw.transportSet = true → (r = .lysef → obj s Obj.LysefMasterEnable = 0) →
      Runs (.leaveTransport r) s fun t =>
        answered t r = some stOk ∧ t.pw.mode = .full ∧ t.pw.transportSet = false ∧
        (s.pw.leftOnce = false → obj t Obj.BatteryInstalledTime = t48 s)) ∧
    (hostReady s r 2 = true → s.pw.transportSet = false →
      Runs (.leaveTransport r) s fun t => answered t r = some stOk ∧ t.pw.transportArmed = false ∧ Only [] [.pw, .ports, .front, .clk, .radio] s t) ∧
    (hostReady s r 4 = true →
      Runs (.enterTransport r) s fun t => answered t r = some stOk ∧ t.pw.transportArmed = true ∧ Only [] [.pw, .ports, .front, .clk, .radio] s t) ∧
    (hostReady s r 3 = true → obj s Obj.BatterySwapPending ≠ 0 → 100 ≤ mAh.toNat → mAh.toNat ≤ 20000 →
      Runs (.batteryReplaced r mAh) s fun t =>
        answered t r = some stOk ∧ obj t Obj.ChargeLifetime = (obj s Obj.ChargeLifetime + obj s Obj.ChargeUsed) % 2 ^ 64 ∧
        obj t Obj.ChargeUsed = 0 ∧ obj t Obj.BatteryCapacity = mAh.toNat ∧ obj t Obj.BatteryInstalledTime = t48 s ∧
        obj t Obj.BatterySwapPending = 0 ∧ obj t Obj.BudgetBucket = 0 ∧ (eventRoom s = true → queued t 0x1104 (t48 s) [] = true) ∧
        Only ([(Obj.ChargeLifetime, Obj.ChargeLifetime), (Obj.ChargeUsed, Obj.ChargeUsed), (Obj.BatteryCapacity, Obj.BatteryCapacity),
          (Obj.BatteryInstalledTime, Obj.BatteryInstalledTime), (Obj.BatterySwapPending, Obj.BatterySwapPending),
          (Obj.BudgetBucket, Obj.BudgetBucket)] ++ eventKeys) [.pw, .ports, .front, .clk, .flash, .tally, .radio] s t) ∧
    (hostReady s r 3 = true →
      Runs (.lfSourceReset r) s fun t =>
        answered t r = some stOk ∧ t.clk.retired = [] ∧ (∀ x, lfFails t x = 0) ∧ lfHealthy t .rc = true ∧ Only [] [.clk, .ports, .front, .radio] s t)

/-- R242, R245, Table 07.6: freeze, quiesce, run and clearing the arbiter's counts. -/
def Obligations.HostArbiterCommands : Prop :=
  ∀ (s : State) (r : Route),
    (hostReady s r 3 = true →
      Runs (.arbiterFreeze r) s fun t =>
        answered t r = some stOk ∧ obj t Obj.ArbiterFreeze = 1 ∧ t.front.freezeBy = some r ∧
        Only [(Obj.ArbiterFreeze, Obj.ArbiterFreeze)] [.front, .ports, .clk, .radio] s t) ∧
    (hostReady s r 3 = true →
      Runs (.arbiterQuiesce r) s fun t =>
        answered t r = some stOk ∧ obj t Obj.ArbiterFreeze = 2 ∧ t.front.freezeBy = some r ∧
        Only [(Obj.ArbiterFreeze, Obj.ArbiterFreeze)] [.front, .ports, .clk, .radio] s t) ∧
    (portUp s r = true → s.pw.storeOpen = true → s.pw.mode ≠ .readout → obj s Obj.StoreStage ≠ 2 → mayTakeTag s r.requester = true →
      seqOf s r = none → mfind s.ports.tags (tagSlot r (nextTag s r)) = none → 3 ≤ (session s r).level →
      (s.front.freezeBy = some r ∨ 4 ≤ (session s r).level) →
      Runs (.arbiterRun r) s fun t =>
        answered t r = some stOk ∧ obj t Obj.ArbiterFreeze = 0 ∧ t.front.freezeBy = none ∧ t.flash.heldRecs = [] ∧ t.tally.heldEvents = [] ∧
        (s.flash.heldRecs = [] → s.tally.heldEvents = [] → Only [(Obj.ArbiterFreeze, Obj.ArbiterFreeze)] [.front, .ports, .clk, .radio] s t) ∧
        Only [(Obj.ArbiterFreeze, Obj.ArbiterFreeze)] [.front, .ports, .clk, .flash, .tally, .radio] s t) ∧
    (hostReady s r 3 = true →
      Runs (.arbiterStatsClear r) s fun t =>
        answered t r = some stOk ∧ (∀ i, 1 ≤ i → i ≤ 6 → obj t (Obj.PreemptCount i) = 0 ∧ obj t (Obj.TagRefusals i) = 0 ∧ obj t (Obj.LongestWait i) = 0) ∧
        (∀ i, 1 ≤ i → i ≤ 4 → obj t (Obj.TimerPreemptCount i) = 0) ∧
        Only [(Obj.PreemptCount 1, Obj.PreemptCount 6), (Obj.TagRefusals 1, Obj.TagRefusals 6), (Obj.LongestWait 1, Obj.LongestWait 6),
          (Obj.TimerPreemptCount 1, Obj.TimerPreemptCount 4)] [.ports, .front, .clk, .radio] s t)

/-- R265, R289, R296, R302, R319, R340: the host's commands to the timer, the sequencer and the zero calibration. -/
def Obligations.HostMeasureCommands : Prop :=
  ∀ (s : State) (r : Route) (v : Byte) (p : Nat) (rise : List RiseTimes),
    (hostReady s r 3 = true → p < 3 → obj s (Obj.TdcPairState (p + 1)) = 2 →
      Runs (.tdcPairRetest r) s fun t =>
        answered t r = some stOk ∧ mfind t.tdc.retest p = some 16 ∧ Only [] [.tdc, .ports, .front, .clk, .radio] s t) ∧
    (hostReady s r 2 = true → 1 ≤ v.toNat → v.toNat ≤ 4 →
      Runs (.tdcSnapshotArm r v) s fun t =>
        answered t r = some stOk ∧ t.tdc.arm = some v.toNat ∧ (t.tdc.snapshot[2]?).getD 0 = 0 ∧ Only [] [.tdc, .ports, .front, .clk, .radio] s t) ∧
    (hostReady s r 3 = true → obj s Obj.SealState = 0 →
      Runs (.templateCapture r) s fun t => answered t r = some stOk ∧ t.acou.capture = some 0 ∧ Only [] [.acou, .ports, .front, .clk, .radio] s t) ∧
    (hostReady s r 2 = true → 1 ≤ v.toNat → v.toNat ≤ 8 →
      Runs (.sampleCaptureArm r v) s fun t =>
        answered t r = some stOk ∧ t.acou.sampleArm = some v.toNat ∧ Only [] [.acou, .ports, .front, .clk, .radio] s t) ∧
    (hostReady s r 2 = true →
      Runs (.pathCheck r rise) s fun t =>
        answered t r = some stOk ∧ t.acou.checkPending = true ∧ t.pads.rise = rise ∧ Only [] [.acou, .pads, .ports, .front, .clk, .radio] s t) ∧
    (hostReady s r 3 = true → obj s Obj.SealState = 0 →
      Runs (.zeroCalibrate r) s fun t =>
        answered t r = some stOk ∧ t.flow.zeroCal = some ⟨64, [], []⟩ ∧ getBit t Obj.FlowStatus 7 = false ∧
        Only [(Obj.FlowStatus, Obj.FlowStatus)] [.flow, .flash, .ports, .front, .clk, .radio] s t)

/-- R435, R436, R438, R434, R448, R449, R433: the host's commands to the time of day. -/
def Obligations.HostTimeCommands : Prop :=
  ∀ (s : State) (r : Route) (time : BitVec 64) (cal : BitVec 56) (ms : BitVec 32) (v : Byte) (data : List Byte),
    (hostReady s r 3 = true →
      Runs (.rtcTimeSet r time) s fun t => answered t r = some stOk ∧ t.rtc.pendSet = some ((time.toNat : Int), 1)) ∧
    (∀ secs : Nat, hostReady s r 3 = true → calendarSecs (bytesOf 7 cal.toNat) = some secs → 0 ≤ (secs : Int) - 900 * objI 1 s Obj.LocalOffset →
      Runs (.calendarSet r cal) s fun t =>
        answered t r = some stOk ∧ t.rtc.pendSet = some (((((secs : Int) - 900 * objI 1 s Obj.LocalOffset).toNat * 65536 : Nat) : Int), 2)) ∧
    (hostReady s r 2 = true → (toInt 4 ms.toNat).natAbs ≤ obj s Obj.SlewLimit →
      Runs (.rtcTimeAdjust r ms) s fun t =>
        answered t r = some stOk ∧ t.rtc.slew = roundDiv (toInt 4 ms.toNat * 2 ^ 48) 1000 ∧ Only [] [.rtc, .ports, .front, .clk, .radio] s t) ∧
    (hostReady s r 2 = true → obj s Obj.SlewLimit < (toInt 4 ms.toNat).natAbs →
      Runs (.rtcTimeAdjust r ms) s fun t => answered t r = some stRange ∧ Only [] [.ports, .clk, .radio] s t) ∧
    (hostReady s r 2 = true → 1 ≤ v.toNat → v.toNat ≤ 7 →
      Runs (.weekdayWrite r v) s fun t =>
        answered t r = some stOk ∧ obj t Obj.Weekday = v.toNat ∧ Only [(Obj.Weekday, Obj.Weekday)] [.ports, .front, .clk, .flash, .radio] s t) ∧
    (hostReady s r 2 = true → ms.toNat ≤ 16777215 →
      Runs (.periodicWakeWrite r ms) s fun t =>
        answered t r = some stOk ∧ obj t Obj.PeriodicWake = ms.toNat ∧ t.rtc.wakeStart = s.rtc.tk ∧
        Only [(Obj.PeriodicWake, Obj.PeriodicWake)] [.rtc, .ports, .front, .clk, .flash, .radio] s t) ∧
    (hostReady s r 2 = true → data.length = 32 →
      Runs (.backupBytesWrite r data) s fun t =>
        answered t r = some stOk ∧ obj t Obj.BackupBytes = natOf data ∧ Only [(Obj.BackupBytes, Obj.BackupBytes)] [.ports, .front, .clk, .radio] s t) ∧
    (hostReady s r 3 = true → -48 ≤ toInt 1 v.toNat → toInt 1 v.toNat ≤ 56 →
      Runs (.localOffsetWrite r v) s fun t =>
        answered t r = some stOk ∧ obj t Obj.LocalOffset = v.toNat ∧ t.rtc.bin = s.rtc.bin ∧ t.rtc.tk = s.rtc.tk)

/-- R463, R481, R482, R446, R406: a latch on demand, the flag words that a write of ones clears, the coefficient of performance started anew. -/
def Obligations.HostLatchAndFlagCommands : Prop :=
  ∀ (s : State) (r : Route) (w : BitVec 32) (v : Byte),
    (hostReady s r 2 = true → latchRoom s = true →
      Runs (.latchNow r) s fun t =>
        answered t r = some stOk ∧ obj t Obj.LatchSequence = next32 (obj s Obj.LatchSequence) ∧ t.tally.fifo.length = s.tally.fifo.length + 1 ∧
        getBit t Obj.IrqStatus 1 = true ∧ t.accs.volFwd = s.accs.volFwd % 1000000 ∧ t.accs.heat = s.accs.heat % 3600000) ∧
    (hostReady s r 2 = true →
      Runs (.errorFlagsStickyClear r w) s fun t =>
        answered t r = some stOk ∧ obj t Obj.ErrorFlagsSticky = obj s Obj.ErrorFlagsSticky - Nat.land (obj s Obj.ErrorFlagsSticky) w.toNat ∧
        Only [(Obj.ErrorFlagsSticky, Obj.ErrorFlagsSticky)] [.ports, .front, .clk, .flash, .radio] s t) ∧
    (hostReady s r 0 = true → v.toNat ≤ 127 → s.radio.inbox = [] →
      Runs (.irqStatusClear r v) s fun t =>
        answered t r = some stOk ∧ obj t Obj.IrqStatus = obj s Obj.IrqStatus - Nat.land (obj s Obj.IrqStatus) v.toNat ∧
        Only [(Obj.IrqStatus, Obj.IrqStatus)] [.ports, .front, .clk, .radio] s t) ∧
    (hostReady s r 0 = true → v.toNat ≤ 127 → s.radio.inbox ≠ [] →
      Runs (.irqStatusClear r v) s fun t => answered t r = some stOk ∧ getBit t Obj.IrqStatus 6 = true) ∧
    (hostReady s r 1 = true →
      Runs (.alarmFlagsClear r v) s fun t =>
        answered t r = some stOk ∧ obj t Obj.AlarmFlags = obj s Obj.AlarmFlags - Nat.land (obj s Obj.AlarmFlags) v.toNat ∧
        Only [(Obj.AlarmFlags, Obj.AlarmFlags)] [.ports, .front, .clk, .radio] s t) ∧
    (hostReady s r 3 = true → s.code = .le →
      Runs (.copReset r) s fun t =>
        answered t r = some stOk ∧ obj t Obj.CopResetTime = t48 s ∧ t.elec.heat0 = obj s Obj.HeatEnergy ∧ t.elec.cool0 = obj s Obj.CoolingEnergy ∧
        Only [(Obj.CopResetTime, Obj.CopResetTime)] [.elec, .ports, .front, .clk, .radio] s t)

/-- R509, R514, R515, R518, R519, R531, R517: the host's commands to the Lysef slave and master; a slave engine that the master role puts into reset answers no
more (R21). -/
def Obligations.HostLysefCommands : Prop :=
  ∀ (s : State) (r : Route) (v : Byte) (rate : BitVec 16) (data : List Byte) (answer : List LsnsRead),
    (hostReady s r 3 = true →
      Runs (.lysefShortAddressWrite r v) s fun t =>
        answered t r = some stOk ∧ obj t Obj.LysefShortAddress = v.toNat ∧ (v = 0 → obj t Obj.LysefNew = 1) ∧
        Only [(Obj.LysefShortAddress, Obj.LysefShortAddress), (Obj.LysefNew, Obj.LysefNew)] [.ly, .ports, .front, .clk, .flash, .radio] s t) ∧
    (hostReady s r 3 = true → masterUp s = true → (s.lm.openSlaves = [] ∨ obj s Obj.LysefBreakDefer = 0) →
      (Runs (.lysefFullSearch r) s fun t =>
        answered t r = some stOk ∧ t.lm.search.map (·.newOnly) = some false ∧ t.lm.identity = none ∧ obj t Obj.LysefSearchStatus = 1 ∧
        Only [(Obj.LysefSearchStatus, Obj.LysefSearchStatus)] [.lm, .free, .ports, .front, .clk, .radio] s t) ∧
      Runs (.lysefNewSearch r) s fun t =>
        answered t r = some stOk ∧ t.lm.search.map (·.newOnly) = some true ∧ t.lm.identity = none ∧ obj t Obj.LysefSearchStatus = 1 ∧
        Only [(Obj.LysefSearchStatus, Obj.LysefSearchStatus)] [.lm, .free, .ports, .front, .clk, .radio] s t) ∧
    (hostReady s r 2 = true → data.length = 240 → ((data[6]?).getD 0).toNat ≤ 231 → masterUp s = true → s.pw.bus = true → s.lm.deferred = none →
      Runs (.lysefMasterSend r data answer) s fun t =>
        answered t r = some stOk ∧
        t.lm.frame = bytesOf 1 (data.headD 0).toNat ++ [0x01] ++ bytesOf 1 (Nat.xor (Nat.xor (data.headD 0).toNat 0x01) 0xA5)
          ++ (data.drop 1).take (8 + ((data[6]?).getD 0).toNat) ∧
        t.lm.result.head? = some (BitVec.ofNat 8 (answerCode (bytesOfBits (readBits s answer)))) ∧ Only [] [.lm, .ports, .front, .clk, .radio] s t) ∧
    (hostReady s r 2 = true → data.length = 240 → ((data[6]?).getD 0).toNat ≤ 231 → s.pw.bus = false →
      Runs (.lysefMasterSend r data answer) s fun t =>
        answered t r = some stOk ∧ t.lm.result.head? = some 4 ∧ Only [] [.lm, .ports, .front, .clk, .radio] s t) ∧
    (hostReady s r 3 = true → isFull s = true →
      Runs (.lysefMasterEnable r 1) s fun t =>
        answered t r = (if r = .lysef then none else some stOk) ∧ obj t Obj.LysefMasterEnable = 1 ∧ t.lm.running = true) ∧
    (hostReady s r 3 = true →
      Runs (.lysefMasterEnable r 0) s fun t => answered t r = some stOk ∧ obj t Obj.LysefMasterEnable = 0 ∧ t.lm.running = false) ∧
    (hostReady s r 3 = true → [1200, 2400, 4800, 9600, 19200].contains rate.toNat = true →
      Runs (.lysefCellRateChange r rate) s fun t =>
        answered t r = some stOk ∧ obj t Obj.LysefCellRate = rate.toNat ∧ (masterUp s = true → t.lm.openSlaves = []) ∧
        Only [(Obj.LysefCellRate, Obj.LysefCellRate)] [.lm, .ports, .front, .clk, .flash, .radio] s t)

/-- R618, R640, R628, R629: the crown table, a map change, a stem's part of it.
R631, R633, R632: a bridged access, a mailbox frame out, the oldest one in freed. -/
def Obligations.HostGroveCommands : Prop :=
  ∀ (s : State) (r : Route) (identity map : BitVec 64) (key : BitVec 128) (short first : Byte) (instant : BitVec 16) (data : List Byte),
    (hostReady s r 3 = true → r ≠ .lysef → entryHolding s identity.toNat = none → short ≠ 0 → mfind s.radio.stems short.toNat = none →
      Runs (.stemAdmit r identity key short) s fun t =>
        answered t r = some stOk ∧ mfind t.radio.stems short.toNat = some ⟨identity.toNat, key.toNat, false, 0, 0, [], none⟩ ∧
        Only [] [.ports, .front, .clk, .flash, .radio] s t) ∧
    (∀ n, hostReady s r 3 = true → entryHolding s identity.toNat = some n →
      Runs (.stemRemove r identity) s fun t =>
        answered t r = some stOk ∧ mfind t.radio.stems n = none ∧ mfind t.radio.nbrs n = none ∧
        Only [(Obj.StemCount, Obj.StemCount)] [.ports, .front, .clk, .flash, .radio] s t) ∧
    (hostReady s r 3 = true → mapFits (obj s Obj.RadioBand) map.toNat first.toNat = true → isCrown s = true →
      Runs (.groveMapUpdate r map first) s fun t =>
        answered t r = some stOk ∧ t.radio.mapChange = some (map.toNat, first.toNat) ∧
        Only [(Obj.TxDropCount 1, Obj.TxDropCount 1)] [.ports, .front, .clk, .radio] s t) ∧
    (hostReady s r 3 = true → mapFits (obj s Obj.RadioBand) map.toNat first.toNat = false →
      Runs (.groveMapUpdate r map first) s fun t => answered t r = some stRange ∧ Only [] [.ports, .clk, .radio] s t) ∧
    (∀ n c, hostReady s (.grove 0) 0 = true → isStem s = true → nbr s 0 = some n → n.conn = some c →
      32768 < (c.event + 65536 - instant.toNat) % 65536 →
      Runs (.connUpdate (.grove 0) map first instant) s fun t =>
        answered t (.grove 0) = some stOk ∧
        (nbr t 0).bind (·.conn) = some { c with update := some (instant.toNat, map.toNat, first.toNat) } ∧ Only [] [.ports, .front, .clk, .radio] s t) ∧
    (hostReady s r 2 = true → data.length = 240 → ((data[7]?).getD 0).toNat ≤ 230 → s.radio.send = none → isCrown s = true →
      connected s (data.headD 0).toNat = true →
      Runs (.groveSend r data) s fun t =>
        answered t r = some stOk ∧ t.radio.send = some (data.headD 0).toNat ∧ t.radio.result.take 2 = [1, data.headD 0] ∧
        Only [(Obj.TxDropCount 1, Obj.TxDropCount 1)] [.ports, .front, .clk, .radio] s t) ∧
    (hostReady s r 2 = true → data.length = 240 → ((data[7]?).getD 0).toNat ≤ 230 → s.radio.send.isSome = true →
      Runs (.groveSend r data) s fun t => answered t r = some stBusy ∧ Only [] [.ports, .clk, .radio] s t) ∧
    (hostReady s r 2 = true → data.length = 240 → 1 ≤ ((data[1]?).getD 0).toNat → ((data[1]?).getD 0).toNat ≤ 230 → s.radio.txq.length < 8 →
      Runs (.mailboxOut r data) s fun t =>
        answered t r = some stOk ∧
        (t.radio.txq[s.radio.txq.length]?).map (fun e => (e.cls, e.peer, e.payload))
          = some (2, (data.headD 0).toNat, 5 :: (data.drop 2).take ((data[1]?).getD 0).toNat) ∧
        Only [] [.ports, .front, .clk, .radio] s t) ∧
    (hostReady s r 1 = true →
      Runs (.mailboxPop r) s fun t =>
        answered t r = some stOk ∧ t.radio.inbox = s.radio.inbox.drop 1 ∧ getBit t Obj.IrqStatus 6 = decide (1 < s.radio.inbox.length) ∧
        Only [(Obj.IrqStatus, Obj.IrqStatus)] [.ports, .front, .clk, .radio] s t)

/-- R649 to R651, R656, R657: a transducer service begun, completed and cancelled; paired sensor values taken for the next conversion. -/
def Obligations.HostServiceCommands : Prop :=
  ∀ (s : State) (r : Route) (path : Byte) (rise : RiseTimes) (data : List Byte),
    (hostReady s r 3 = true → path.toNat < 4 → obj s (Obj.PathEnable (path.toNat + 1)) ≠ 0 → obj s Obj.PathInService = 0 → s.flow.zeroCal = none →
      Runs (.transducerReplaceBegin r path) s fun t =>
        answered t r = some stOk ∧ obj t Obj.PathInService = 2 ^ path.toNat ∧ (eventRoom s = true → queued t 0x6003 (t48 s) [path.toNat] = true) ∧
        Only ((Obj.PathInService, Obj.PathInService) :: eventKeys) [.ports, .front, .clk, .flash, .tally, .radio] s t) ∧
    (hostReady s r 3 = true → path.toNat < 4 → pathServed s path.toNat = true → obj s Obj.TdcMode ≠ 2 → path.toNat < s.pads.rise.length →
      rise.a < 2000000 → rise.b < 2000000 → obj s Obj.TransducerCapMin ≤ min (capacitance rise.a) (capacitance rise.b) →
      Runs (.transducerReplaceComplete r path rise) s fun t =>
        answered t r = some stOk ∧ obj t Obj.ServiceStatus = 0x0100 ∧ t.flow.collect.isSome = true ∧
        (loopOf t path.toNat).acquiring = true ∧ obj t (Obj.TransducerCapacitance (path.toNat + 1)) = min (capacitance rise.a) (capacitance rise.b)) ∧
    (hostReady s r 3 = true → path.toNat < 4 → pathServed s path.toNat = true → obj s Obj.TdcMode ≠ 2 → path.toNat < s.pads.rise.length →
      2000000 ≤ rise.a →
      Runs (.transducerReplaceComplete r path rise) s fun t =>
        answered t r = some stOk ∧ obj t Obj.ServiceStatus = 0x0305 ∧ t.flow.collect = none ∧ getBit t (Obj.PathStatus (path.toNat + 1)) 5 = true) ∧
    (hostReady s r 3 = true → path.toNat < 4 → pathServed s path.toNat = true →
      Runs (.transducerReplaceCancel r path) s fun t =>
        answered t r = some stOk ∧ obj t Obj.PathInService = 0 ∧ (loopOf t path.toNat).acquiring = true ∧ t.flow.collect = none) ∧
    (hostReady s r 3 = true → data.length = 14 → (sensorReplace s data).1 = stOk →
      Runs (.sensorReplace r data) s fun t =>
        answered t r = some stOk ∧ t.temp.sensorPend = some data ∧ Only [] [.temp, .ports, .front, .clk, .radio] s t)

/-! ### Sources, modes, energy -/

/-- R82, R85 to R88, R94, R131: what stops the core. A dusk save keeps both counts and `BackupBytes` for the next start, ends sessions' work and counts itself;
a brown-out drops the accumulators; without any source the glade domain stops; VBK alone starts it on the RC in backup mode. -/
def Obligations.LossOfSources : Prop :=
  ∀ (s : State) (vbk : Bool) (l : List ElecSample),
    (s.pw.vbat = true → coreUp s = true →
      Runs (.duskSave vbk l) s fun t =>
        t.pw.mode = .duskHold ∧ t.pw.vbat = false ∧ t.pw.vbk = vbk ∧ t.pw.storeOpen = false ∧ t.clk.cclk = .stopped ∧ t.shadow = [] ∧ t.ports.seqs = [] ∧
        obj t Obj.DuskCount = next32 (obj s Obj.DuskCount) ∧ obj t Obj.LastDuskTime = t48 s ∧
        t.flash.dusk.map (fun d => (d.bin, d.tk, d.charge)) = some (s.rtc.bin, s.rtc.tk, obj s Obj.ChargeUsed) ∧
        t.flash.duskTime = some (s.rtc.bin, s.rtc.tk, obj s Obj.BackupBytes) ∧ t.rtc = s.rtc) ∧
    (s.pw.mode = .full ∨ s.pw.mode = .transport ∨ s.pw.mode = .duskHold →
      Runs .brownOut s fun t =>
        t.pw.mode = .backup ∧ t.pw.vbat = false ∧ t.pw.storeOpen = false ∧ t.accs = .zero ∧ t.shadow = [] ∧ t.tally.eventQ = [] ∧ t.rtc = s.rtc) ∧
    (s.pw.gladeOn = true → s.pw.vbat = false → s.pw.bus = false → s.pw.field = false →
      Runs .gladeStop s fun t =>
        t.pw.mode = .off ∧ t.pw.gladeOn = false ∧ t.pw.gladeLost = true ∧ gladeRuns t = false ∧ (s.pw.mode = .backup → Only [] [.pw] s t)) ∧
    (s.pw.gladeOn = false → s.pw.vbat = false → s.pw.bus = false → s.pw.field = false →
      Runs .vbkValid s fun t =>
        t.pw.gladeOn = true ∧ t.pw.vbk = true ∧ t.pw.mode = .backup ∧ t.clk.lf = .rc ∧ gladeRuns t = true ∧ Only [] [.pw, .clk] s t) ∧
    (s.pw.gladeOn = true ∨ s.pw.vbat = true ∨ s.pw.bus = true ∨ s.pw.field = true →
      Runs .vbkValid s fun t => t.pw.vbk = true ∧ t.pw.mode = s.pw.mode ∧ Only [] [.pw] s t)

/-- Tables 03.7 and 03.8, R90, R91, R48, R60: what starts the core. VBAT leads to transport or full mode, bus or field to readout mode; after a chip reset the
sources decide, and TEST high with the seal not set holds the part. What a start replays and what a chip reset zeroes is the model's reading (log entries 20,
36). -/
def Obligations.Starts : Prop :=
  ∀ (s : State) (off mv : Nat) (bus field : Bool) (f : FlashFaults),
    (s.pw.vbat = false → s.pw.mode = .off ∨ s.pw.mode = .backup ∨ s.pw.mode = .duskHold →
      Runs (.batteryInsertion off f) s fun t =>
        t.pw.vbat = true ∧ t.pw.storeOpen = true ∧ t.pw.mode = (if s.pw.transportSet then .transport else .full) ∧ t.flash.dusk = none ∧
        (1 ≤ off → obj t Obj.BatterySwapPending = 1)) ∧
    (s.pw.mode = .readout →
      Runs (.vbatValidInReadout off) s fun t =>
        t.pw.vbat = true ∧ t.pw.storeOpen = true ∧ t.pw.mode = (if s.pw.transportSet then .transport else .full) ∧
        (1 ≤ off → obj t Obj.BatterySwapPending = 1)) ∧
    (bus = true ∨ field = true → s.pw.vbat = false → s.pw.mode = .off ∨ s.pw.mode = .backup ∨ s.pw.mode = .duskHold →
      Runs (.startFromBusOrField bus field mv f) s fun t =>
        t.pw.mode = .readout ∧ t.pw.vbat = false ∧ t.pw.storeOpen = true ∧ t.pw.vnfc = mv ∧ t.clk.cclk = .rc ∧ (bus = true → t.pw.bus = true) ∧
        (field = true → t.pw.field = true)) ∧
    (s.pw.vbat = false → s.pw.mode = .chipReset ∨ s.pw.mode = .testHold →
      Runs (.batteryInsertion off f) s fun t => t.pw.vbat = true ∧ t.pw.mode = s.pw.mode ∧ t.pw.gladeOn = true ∧ Only [] [.pw, .clk] s t) ∧
    (s.ports.vioOk = true → s.pw.mode ≠ .off → s.pw.mode ≠ .chipReset →
      Runs .chipReset s fun t =>
        t.pw.mode = .chipReset ∧ t.pw.storeOpen = false ∧ t.accs = .zero ∧ t.shadow = [] ∧ t.ports.tags = [] ∧ t.ports.seqs = [] ∧
        t.front.waiting = [] ∧ t.front.xfer = none ∧ nIrqLow t = false ∧ t.rtc = { s.rtc with pendSet := none }) ∧
    (s.pw.mode = .chipReset → obj s Obj.SealState ≠ 1 →
      Runs (.chipResetRelease true f) s fun t => t.pw.mode = .testHold ∧ Only [] [.pw] s t) ∧
    (s.pw.mode = .chipReset → s.pw.vbat = true →
      Runs (.chipResetRelease false f) s fun t =>
        t.pw.mode = (if s.pw.transportSet then .transport else .full) ∧ t.pw.storeOpen = true ∧ t.pw.replayed = true) ∧
    (s.pw.mode = .chipReset → s.pw.vbat = true → obj s Obj.SealState = 1 →
      Runs (.chipResetRelease true f) s fun t => t.pw.mode = (if s.pw.transportSet then .transport else .full) ∧ t.pw.storeOpen = true) ∧
    (s.pw.mode = .chipReset → s.pw.vbat = false → s.pw.bus = true ∨ s.pw.field = true →
      Runs (.chipResetRelease false f) s fun t => t.pw.mode = .readout ∧ t.pw.storeOpen = true ∧ t.pw.replayed = true) ∧
    (s.pw.mode = .chipReset → s.pw.vbat = false → s.pw.bus = false → s.pw.field = false →
      Runs (.chipResetRelease false f) s fun t => t.pw.mode = (if s.pw.hold then .duskHold else .backup) ∧ Only [] [.pw] s t)

/-- R509, R496, R59, R81, R587: the bus and VIO come and go, VBAT is low, the field part of a transport glance opens its window. R27, R120, R121: a port reset
frees the port's tags, ends its session and sequence, and holds the port until its release on a port edge. A request already captured when the port resets is
carried out first (log entry 46). -/
def Obligations.SourcesAndPorts : Prop :=
  ∀ (s : State) (rate : Nat) (th : Bool) (f : FlashFaults),
    (s.pw.bus = false →
      Runs .busValid s fun t =>
        t.pw.bus = true ∧ obj t Obj.LysefNew = 1 ∧ mget t.ports.inReset 2 false = true ∧ Only [(Obj.LysefNew, Obj.LysefNew)] [.pw, .ly, .ports] s t) ∧
    (s.pw.bus = true → Runs .busValid s fun t => t = s) ∧
    (s.pw.bus = true →
      Runs .busLoss s fun t =>
        t.pw.bus = false ∧ t.ly.tracker = false ∧ t.ly.steady = false ∧ mget t.ports.inReset 2 false = true ∧ seqOf t .lysef = none ∧
        (captured s .lysef = [] → waitingWrites s .lysef = [] → obj t Obj.LysefBreakCount = next32 (obj s Obj.LysefBreakCount))) ∧
    (s.ports.vioOk = true →
      Runs (.vioLoss th f) s fun t =>
        t.ports.vioOk = false ∧ mget t.ports.inReset 1 false = true ∧ nIrqLow t = false ∧ seqOf t .spi = none ∧ t.pw.mode ≠ .chipReset ∧
        (s.pw.mode ≠ .chipReset → t.pads.po = [] ∧ t.pw.mode = s.pw.mode)) ∧
    Runs .vioRestored s (fun t => t.ports.vioOk = true ∧ Only [] [.ports, .pads, .pulse] s t) ∧
    (coreUp s = true → s.pw.vbat = true → s.pw.low = false →
      Runs .batteryLow s fun t =>
        t.pw.low = true ∧ getBit t Obj.RadioStatus 3 = true ∧ getBit t Obj.ErrorFlags 7 = true ∧
        (eventRoom s = true → queued t 0x1102 (t48 s) [] = true) ∧
        Only ((Obj.RadioStatus, Obj.RadioStatus) :: eventKeys) [.pw, .tally, .radio, .clk] s t) ∧
    (s.pw.mode = .transport → Runs .transportWindow s fun t => t.radio.window = true ∧ t.radio.synth = -objI 4 s Obj.HfCorrection ∧ Only [] [.radio, .clk] s t) ∧
    (s.ports.vioOk = true → portsDead s = false →
      Runs (.portReset .spi .midFrame) s fun t =>
        t.ports.tags.all (fun e => decide (e.2.route ≠ .spi)) = true ∧ (session t .spi).level = 0 ∧ (session t .spi).challenge = none ∧
        seqOf t .spi = none ∧ mfind t.ports.out 1 = none ∧ mget t.ports.inReset 1 false = true ∧
        (captured s .spi = [] → waitingWrites s .spi = [] → obj t (Obj.PortResetCount 1) = next32 (obj s (Obj.PortResetCount 1)))) ∧
    (s.ports.vioOk = true → Runs (.portReset .spi .vioLoss) s fun t => t.ports.vioOk = false ∧ portUp t .spi = false ∧ seqOf t .spi = none) ∧
    (s.pw.bus = true → s.lm.running = false →
      Runs (.portReset .lysef .lineBreak) s fun t =>
        t.ports.tags.all (fun e => decide (e.2.route ≠ .lysef)) = true ∧ (session t .lysef).level = 0 ∧ seqOf t .lysef = none ∧
        t.ly.tracker = false ∧ portUp t .lysef = false ∧
        (captured s .lysef = [] → waitingWrites s .lysef = [] → obj t (Obj.PortResetCount 2) = next32 (obj s (Obj.PortResetCount 2)))) ∧
    (s.pw.field = true →
      Runs (.portReset .vicinity .fieldLoss) s fun t =>
        t.ports.tags.all (fun e => decide (e.2.route ≠ .vicinity)) = true ∧ (session t .vicinity).level = 0 ∧ seqOf t .vicinity = none ∧
        t.ports.vic = .powerOff ∧ t.pw.field = false) ∧
    (mget s.ports.inReset 1 false = true → portsDead s = false →
      Runs (.portResetRelease .spi rate) s fun t => mget t.ports.inReset 1 true = false ∧ Only [] [.ports] s t) ∧
    (mget s.ports.inReset 2 false = true → s.lm.running = true → Machine.exec (.portResetRelease .lysef rate) s = .next s) ∧
    (mget s.ports.inReset 2 false = true → portsDead s = false → s.lm.running = false →
      Runs (.portResetRelease .lysef rate) s fun t =>
        mget t.ports.inReset 2 true = false ∧ t.ly.tracker = true ∧ obj t Obj.LysefCellRateSeen = rate % 65536 ∧
        Only [(Obj.LysefCellRateSeen, Obj.LysefCellRateSeen)] [.ports, .ly] s t) ∧
    (mget s.ports.inReset 3 false = true → portsDead s = false →
      Runs (.portResetRelease .vicinity rate) s fun t =>
        mget t.ports.inReset 3 true = false ∧ t.ports.vic = .ready ∧ t.pw.field = true ∧
        obj t Obj.VicinityFieldCount = next32 (obj s Obj.VicinityFieldCount) ∧
        Only [(Obj.VicinityFieldCount, Obj.VicinityFieldCount)] [.ports, .pw] s t)

/-- R72 to R77, R97: the budget of charge by the hour and the second, and the canary of the core voltage. -/
def Obligations.EnergyBudget : Prop :=
  ∀ (s : State) (n vnfc : Nat),
    (coreUp s = true →
      Runs .budgetHour s fun t =>
        (allowedCurrent s < 2 ^ 32 → obj t Obj.AllowedAverageCurrent = allowedCurrent s) ∧ t.pw.chargeSnap = obj s Obj.ChargeUsed ∧ t.pw.hourCharge = 0 ∧
        (min (objI 4 s Obj.BudgetBucket + allowedCurrent s) (obj s Obj.BudgetBucketMax) < 2 ^ 31 → -(2 ^ 31) ≤ objI 4 s Obj.BudgetBucket →
          objI 4 t Obj.BudgetBucket = min (objI 4 s Obj.BudgetBucket + allowedCurrent s) (obj s Obj.BudgetBucketMax))) ∧
    (coreUp s = true →
      Runs (.budgetSecond n vnfc) s fun t =>
        t.pw.vnfc = vnfc ∧
        obj t Obj.ChargeUsed = (obj s Obj.ChargeUsed + n) % 2 ^ 64 ∧ t.pw.hourCharge = s.pw.hourCharge + n ∧
        ((n : Int) ≤ objI 4 s Obj.BudgetBucket + 2 ^ 31 → objI 4 s Obj.BudgetBucket < 2 ^ 31 → objI 4 t Obj.BudgetBucket = objI 4 s Obj.BudgetBucket - n) ∧
        (objI 4 s Obj.BudgetBucket < n → s.pw.budgetBelow = false → eventRoom s = true →
          queued t 0x1105 (t48 s) [] = true ∧ getBit t Obj.ErrorFlags 13 = true) ∧
        ((n : Int) ≤ objI 4 s Obj.BudgetBucket → Only [(Obj.ChargeUsed, Obj.ChargeUsed), (Obj.BudgetBucket, Obj.BudgetBucket)] [.pw] s t)) ∧
    (coreUp s = true → 900 < n →
      Runs (.vcoreCanaryTest n) s fun t =>
        obj t Obj.VcoreSetting = 900 ∧ obj t Obj.VcoreHeadroom = 0 ∧ (eventRoom s = true → queued t 0x1106 (t48 s) [] = true) ∧
        Only ((Obj.VcoreSetting, Obj.VcoreSetting) :: (Obj.VcoreHeadroom, Obj.VcoreHeadroom) :: eventKeys) [.pw, .tally, .radio, .clk] s t) ∧
    (coreUp s = true → n ≤ 900 → obj s Obj.VcoreSetting < n →
      Runs (.vcoreCanaryTest n) s fun t =>
        obj t Obj.VcoreSetting = obj s Obj.VcoreSetting + 10 * ceilDiv (n - obj s Obj.VcoreSetting) 10 ∧
        obj t Obj.VcoreHeadroom = 900 - obj t Obj.VcoreSetting ∧ t.pw.canaryRun = 1 ∧
        Only [(Obj.VcoreSetting, Obj.VcoreSetting), (Obj.VcoreHeadroom, Obj.VcoreHeadroom)] [.pw] s t) ∧
    (coreUp s = true → n ≤ 900 → n ≤ obj s Obj.VcoreSetting →
      Runs (.vcoreCanaryTest n) s fun t =>
        (s.pw.canaryRun < 7 → obj t Obj.VcoreSetting = obj s Obj.VcoreSetting ∧ t.pw.canaryRun = s.pw.canaryRun + 1) ∧
        (7 ≤ s.pw.canaryRun → obj t Obj.VcoreSetting = max 700 (obj s Obj.VcoreSetting - 10) ∧ t.pw.canaryRun = 0) ∧
        obj t Obj.VcoreHeadroom = 900 - obj s Obj.VcoreSetting ∧
        Only [(Obj.VcoreSetting, Obj.VcoreSetting), (Obj.VcoreHeadroom, Obj.VcoreHeadroom)] [.pw] s t)

/-! ### Oscillators -/

/-- R98 to R102, R124: a failed LF source is counted, retired at the third failure in 30 days, and left for the next healthy one with 122 µs added to the RTC
fraction; a source that passes again is returned to. -/
def Obligations.LfSources : Prop :=
  ∀ (s : State) (gap : Nat) (e : Int) (l : LfSrc),
    (gladeRuns s = true →
      Runs (.lfSourceSwitch gap) s fun t =>
        t.rtc.bin = s.rtc.bin + lfGap ∧ t.rtc.tk = s.rtc.tk ∧ t.clk.passed.contains s.clk.lf = false ∧
        lfFails t s.clk.lf = lfFails s s.clk.lf + 1 ∧
        (2 ≤ lfFails s s.clk.lf → t.clk.retired.contains s.clk.lf = true) ∧
        (s.clk.lf = .xtal → t.clk.lf = if lfHealthy s .xl2 then .xl2 else .rc) ∧ (s.clk.lf = .xl2 → lfHealthy s .xtal = false → t.clk.lf = .rc) ∧
        (eventRoom s = true → queued t 0x1201 (t48 t) ([s.clk.lf.num, t.clk.lf.num] ++ pl 4 (gap % 2 ^ 32)) = true)) ∧
    (gladeRuns s = true → s.clk.watch = some l → s.clk.returnDay = none → s.clk.retired.contains l = false → (l = .xl2 → obj s Obj.Xl2Fitted = 1) →
      (e + compOf s l (objI 2 s Obj.DieTemperature)).natAbs ≤ obj s Obj.LfFaultLimit * 100 →
      Runs (.lfSourceReturn e) s fun t =>
        t.clk.lf = l ∧ t.clk.watch = none ∧ t.clk.passed.contains l = true ∧ t.clk.returnDay = some (upDay s) ∧
        (eventRoom s = true → queued t 0x1202 (t48 s) [] = true)) ∧
    (gladeRuns s = true → s.clk.watch = some l → obj s Obj.LfFaultLimit * 100 < (e + compOf s l (objI 2 s Obj.DieTemperature)).natAbs →
      Runs (.lfSourceReturn e) s fun t => t.clk.lf = s.clk.lf ∧ t.clk.watch = none ∧ Only [] [.clk] s t) ∧
    (gladeRuns s = true → s.clk.watch = some l → s.clk.retired.contains l = true ∨ l = .xl2 ∧ obj s Obj.Xl2Fitted ≠ 1 →
      Runs (.lfSourceReturn e) s fun t => t.clk.lf = s.clk.lf ∧ t.clk.watch = none ∧ Only [] [.clk] s t) ∧
    (gladeRuns s = true → s.clk.testing = some l → (l = .xl2 → obj s Obj.Xl2Fitted = 1) →
      Runs (.lfStartTestEnd true) s fun t =>
        t.clk.lf = (if l.num < s.clk.lf.num then l else s.clk.lf) ∧ t.clk.passed.contains l = true ∧
        t.clk.testing = (if l = .xtal ∧ xl2Wanted s = true then some .xl2 else none) ∧ Only [] [.clk] s t) ∧
    (gladeRuns s = true → s.clk.testing = some .xl2 → obj s Obj.Xl2Fitted ≠ 1 →
      Runs (.lfStartTestEnd true) s fun t => t.clk.testing = none ∧ t.clk.lf = s.clk.lf ∧ t.clk.passed = s.clk.passed ∧ Only [] [.clk] s t) ∧
    (gladeRuns s = true → s.clk.testing = some .xtal → xl2Wanted s = true →
      Runs (.lfStartTestEnd false) s fun t =>
        t.clk.lf = s.clk.lf ∧ t.clk.testing = some .xl2 ∧ t.clk.passed.contains .xtal = false ∧ t.rtc.bin = s.rtc.bin + lfGap)

/-- R103, R108 to R113, R129: the compensation tick, the 32 MHz crystal, its measurement, CCLK.
R483, R644: the noon pass runs once a local date and marks its time; `MarginSummary` shows the margins as they are. -/
def Obligations.ClocksAndNoon : Prop :=
  ∀ (s : State) (temp e check : Int) (gate periods : Nat) (rise : List RiseTimes),
    (coreUp s = true → -32768 ≤ temp → temp ≤ 32767 →
      Runs (.compensationTick temp e check) s fun t =>
        objI 2 t Obj.DieTemperature = temp ∧
        (s.clk.lf = .rc → s.pw.vbat = true → lfMargin s ≠ 0 → t.clk.rcTrim = s.clk.rcTrim - roundDiv e 100000 ∧
          (t.rtc.bin = s.rtc.bin + lfGap ↔ obj s Obj.LfFaultLimit * 100 < (check - (e - 100000 * roundDiv e 100000)).natAbs)) ∧
        (s.pw.vbat = false ∨ lfMargin s = 0 → t.clk.rcTrim = s.clk.rcTrim) ∧ (s.pw.vbat = false → t.rtc.bin = s.rtc.bin) ∧
        (s.clk.lf = .xtal → (parabola temp (objI 2 s Obj.LfTurnover) (objI 2 s Obj.LfCurvature)).natAbs < 2 ^ 31 →
          objI 4 t Obj.LfCompensation = parabola temp (objI 2 s Obj.LfTurnover) (objI 2 s Obj.LfCurvature)) ∧
        (s.clk.lf ≠ .rc → s.pw.vbat = true → (t.rtc.bin = s.rtc.bin + lfGap ↔ obj s Obj.LfFaultLimit * 100 < (e + compOf s s.clk.lf temp).natAbs))) ∧
    (coreUp s = true → s.clk.cclk ≠ .stopped →
      Runs .hfCrystalStable s fun t => t.clk.cclk = .xtal ∧ t.clk.mclk = true ∧ t.pw.hfFailed = false ∧ Only [] [.clk, .pw] s t) ∧
    (coreUp s = true →
      Runs .hfStartFail s fun t =>
        t.pw.hfFailed = true ∧ t.clk.mclk = false ∧ t.clk.cclk ≠ .xtal ∧ t.tdc.grant = none ∧ t.acou.running = false ∧
        t.temp.conv = none ∧ t.radio.air = [] ∧ t.radio.event = none ∧ t.pads.paen = false ∧ t.pads.rfsw = false ∧
        obj t Obj.HfStartFailCount = next32 (obj s Obj.HfStartFailCount) ∧ (eventRoom s = true → queued t 0x1204 (t48 s) [] = true)) ∧
    (s.clk.cclk ≠ .stopped → workPending s = false →
      Runs .cclkStop s fun t => t.clk.cclk = .stopped ∧ t.pw.hfFailed = false ∧ Only [] [.clk, .pw, .tdc] s t) ∧
    (s.clk.hfMeasuring = true → hfStamped s = true → (hfError gate periods (objI 4 s Obj.RtcTotalTrim)).natAbs < 2 ^ 31 →
      Runs (.hfMeasurementDone gate periods) s fun t =>
        objI 4 t Obj.HfMeasured = hfError gate periods (objI 4 s Obj.RtcTotalTrim) ∧ obj t Obj.HfLastMeasureTime = t48 s ∧
        t.clk.hfMeasuring = false ∧
        ((hfError gate periods (objI 4 s Obj.RtcTotalTrim) - objI 4 s Obj.HfCorrection).natAbs ≤ obj s Obj.HfStepLimit * 100 →
          objI 4 t Obj.HfCorrection = clampI (-500000) 500000 (hfError gate periods (objI 4 s Obj.RtcTotalTrim))) ∧
        (obj s Obj.HfStepLimit * 100 < (hfError gate periods (objI 4 s Obj.RtcTotalTrim) - objI 4 s Obj.HfCorrection).natAbs → s.clk.hfRejected = none →
          objI 4 t Obj.HfCorrection = objI 4 s Obj.HfCorrection ∧ (eventRoom s = true → queued t 0x1205 (t48 s) [] = true))) ∧
    (isFull s = true → s.tally.noonDates.contains (localDay s).toNat = false → (obj s Obj.NoonPassTime : Int) ≤ localMinute s →
      (∀ d n, s.tally.noonHold = some (d, n) → d ≠ (localDay s).toNat ∨ n + 64 * 32768 ≤ ticks s) →
      Runs (.noonPass rise) s fun t =>
        obj t Obj.LastNoonPass = t48 s ∧ t.tally.noonDates = (localDay s).toNat :: s.tally.noonDates ∧ t.pads.rise = rise ∧ t.rtc.bin = s.rtc.bin) ∧
    (s.tally.noonDates.contains (localDay s).toNat = true → Runs (.noonPass rise) s fun t => t = s) ∧
    (∀ n, s.tally.noonHold = some ((localDay s).toNat, n) → ticks s < n + 64 * 32768 → Runs (.noonPass rise) s fun t => t = s) ∧
    (coreUp s = true →
      Runs .marginSummaryUpdate s fun t =>
        obj t Obj.MarginSummary = marginSummary s ∧
        Only [(Obj.MarginSummary, Obj.MarginSummary), (Obj.EventsLost, Obj.EventsLost)] [.tally, .clk] s t)

/-! ### The store front and the journal -/

/-- R226, R228 to R232: a request is stamped and waits, or is refused; class U goes before class N, then the greatest age, then the rank; a grant
ends after its last beat, with its effect. -/
def Obligations.StoreArbiter : Prop :=
  ∀ (s : State) (q : Requester) (n k v : Nat) (locked : Bool) (w : Waiting) (d : ObjDef),
    (coreUp s = true → frozen s = false → mayTakeTag s q = true →
      Runs (.storeRequest q n (some (k, v)) locked) s fun t =>
        t.front.waiting = s.front.waiting ++ [⟨q, s.front.seq, ticks s, beatsFor n, locked, .setKey k v, false⟩] ∧
        t.front.seq = (s.front.seq + 1) % 256 ∧ Only [] [.front, .clk] s t) ∧
    (coreUp s = true → frozen s = false → mayTakeTag s q = false →
      Runs (.storeRequest q n (some (k, v)) locked) s fun t =>
        t.front = s.front ∧ obj t (Obj.TagRefusals q.sub) = next32 (obj s (Obj.TagRefusals q.sub))) ∧
    (coreUp s = true → s.front.xfer = none → s.front.source = [] → mayGrant s = true → queuesFull s = false → s.front.waiting.contains w = true →
      (s.front.waiting.all fun x => decide (x = w) ||
        (classU s w.req && !classU s x.req) || ((classU s w.req == classU s x.req) &&
          (decide (ageOf s x < ageOf s w) || (decide (ageOf s x = ageOf s w) && decide (w.req.rank < x.req.rank))))) = true →
      Runs .storeGrant s fun t =>
        t.front.xfer = some ⟨w.req, w.beats, w.locked, w.act⟩ ∧ t.front.waiting = s.front.waiting.erase w ∧
        obj t (Obj.LongestWait w.req.sub) = max (obj s (Obj.LongestWait w.req.sub)) ((ticks s - w.since) % 2 ^ 32) ∧
        Only [(Obj.LongestWait w.req.sub, Obj.LongestWait w.req.sub)] [.front] s t) ∧
    (s.front.xfer = some ⟨q, n, locked, .setKey k v⟩ → rowOf k = some d → v < 256 ^ d.size →
      Runs .storeTransferEnd s fun t => t.front.xfer = none ∧ obj t k = v ∧ Only [(k, k)] [.front] s t)

/-- R231, R237, R240, R242, R246, R252, R262: what ends a transfer, a sequence or a freeze at the front before its time, and the arbiter's new settings. -/
def Obligations.ArbiterLimits : Prop :=
  ∀ (s : State) (q : Requester) (n k v : Nat) (locked : Bool) (r : Route) (sq : Seq),
    (s.front.xfer = some ⟨q, n, false, .setKey k v⟩ → classU s q = false → s.front.waiting.any (fun w => classU s w.req) = true → mayGrant s = true →
      Runs .storePreempt s fun t =>
        t.front.xfer.map (fun x => classU s x.req) = some true ∧ obj t (Obj.PreemptCount q.sub) = next32 (obj s (Obj.PreemptCount q.sub)) ∧
        Only [(Obj.PreemptCount q.sub, Obj.PreemptCount q.sub), (Obj.LongestWait 1, Obj.LongestWait 6)] [.front, .ports, .clk] s t) ∧
    (s.front.xfer = some ⟨q, n, locked, .setKey k v⟩ → 128 < n →
      Runs .arbWatchdog s fun t =>
        t.front.xfer = none ∧ obj t (Obj.PreemptCount q.sub) = next32 (obj s (Obj.PreemptCount q.sub)) ∧
        (eventRoom s = true → queued t 0x4106 (t48 s) [q.sub] = true) ∧
        Only [(Obj.PreemptCount q.sub, Obj.PreemptCount q.sub), (Obj.EventsLost, Obj.EventsLost)] [.front, .ports, .tally, .clk] s t) ∧
    (s.front.waiting.any (longWaiting s q) = true →
      Runs (.arbLongWait q) s fun t =>
        (t.front.waiting.filter (longWaiting t q)).length + 1 = (s.front.waiting.filter (longWaiting s q)).length ∧
        t.front.waiting.map (·.stamp) = s.front.waiting.map (·.stamp) ∧
        (eventRoom s = true → queued t 0x4104 (t48 s) [q.sub] = true) ∧ Only [(Obj.EventsLost, Obj.EventsLost)] [.front, .tally, .clk] s t) ∧
    (mfind s.ports.seqs r.slot = some sq → lockWaiter s r.slot = true → obj s Obj.LockLimit * 32768 ≤ sq.lockTicks * 1000 →
      commitInCore s sq.owner = false →
      Runs (.lockExpired r) s fun t =>
        mfind t.ports.seqs r.slot = none ∧ obj t Obj.LockExpiredCount = next32 (obj s Obj.LockExpiredCount) ∧
        (eventRoom s = true → queued t 0x4101 (t48 s) [] = true) ∧
        Only [(Obj.LockExpiredCount, Obj.LockExpiredCount), (Obj.EventsLost, Obj.EventsLost)] [.ports, .front, .tally, .clk] s t) ∧
    (obj s Obj.ArbiterFreeze = 2 → s.ports.seqs = [] →
      Runs .quiesceToFreeze s fun t => frozen t = true ∧ Only [(Obj.ArbiterFreeze, Obj.ArbiterFreeze)] [] s t) ∧
    (obj s Obj.ArbiterFreeze ≠ 0 → obj s Obj.FreezeLimit * 32768 ≤ s.front.freezeTicks * 1000 →
      Runs .freezeExpired s fun t =>
        obj t Obj.ArbiterFreeze = 0 ∧ t.front.freezeBy = none ∧ t.flash.heldRecs = [] ∧ t.tally.heldEvents = [] ∧
        (s.tally.heldEvents = [] → eventRoom s = true → queued t 0x4103 (t48 s) [] = true) ∧
        Only [(Obj.ArbiterFreeze, Obj.ArbiterFreeze), (Obj.EventsLost, Obj.EventsLost)] [.front, .flash, .tally, .clk] s t) ∧
    (pendingOf s .arbiter = true → s.front.xfer = none → rising s.pend = true →
      Runs .arbConfigApplied s fun t =>
        pendingOf t .arbiter = false ∧ (blockOf k = some .arbiter → mfind s.pend k = some v → obj t k = v ∧ mfind t.pend k = none) ∧
        (blockOf k ≠ some .arbiter → mfind t.pend k = mfind s.pend k) ∧ (eventRoom s = true → queued t 0x4105 (t48 s) [] = true))

/-- R161, R192, R196, R199, R200, R206: the journal writer takes unit records before commits, a record is durable with its commit word, an erase that verifies
frees its unit, and a raw program needs erased words. Which unit is taken and the status of a raw program are the model's reading (log entries 13, 18). -/
def Obligations.JournalWriter : Prop :=
  ∀ (s : State) (u w n : Nat) (value : BitVec 64) (r : Rec) (l : List Rec) (p : Payload) (ps : List Payload) (es : List (Nat × Nat)),
    (coreUp s = true → u < 204 → 12 ≤ w → w < 512 → wordErased s u w = true →
      Runs (.rawProgram u w value) s fun t =>
        mfind t.flash.raw (u * 512 + w) = some value.toNat ∧ t.flash.rawStatus = 0 ∧ wordErased t u w = false ∧ Only [] [.flash] s t) ∧
    (coreUp s = true → u < 204 → 12 ≤ w → w < 512 → wordErased s u w = false →
      Runs (.rawProgram u w value) s fun t => t.flash.rawStatus = 0x30 ∧ t.flash.raw = s.flash.raw ∧ t.flash.units = s.flash.units ∧ Only [] [.flash] s t) ∧
    (coreUp s = true → s.pw.mode ≠ .readout → s.flash.work = none → s.flash.torn = false → s.flash.unitRecs = p :: ps →
      Runs .journalWorkTaken s fun t =>
        t.flash.work = some (.record ⟨s.flash.nextTxn, 0, true, p, []⟩) ∧ t.flash.unitRecs = ps ∧ Only [] [.flash] s t) ∧
    (coreUp s = true → s.pw.mode ≠ .readout → s.flash.work = none → s.flash.torn = false → s.flash.unitRecs = [] → s.tally.fifo = [] →
      2 ≤ journalErased s → s.flash.commits = r :: l →
      Runs .journalWorkTaken s fun t => t.flash.work = some (.record r) ∧ t.flash.commits = l ∧ Only [] [.flash] s t) ∧
    (s.flash.work = some (.record r) → journalUnit s (recWords r + 3) = some u → r.payload = .data es → s.pw.mode ≠ .readout →
      s.flash.breakTxn ≠ some r.txn → (∃ v ∈ journalUnits s, v ≠ u ∧ isErased s v = true) →
      Runs (.recordProgrammed .good) s fun t =>
        t.flash.work = none ∧ (unit t u).st = .opened ∧ (unit t u).used = (unit s u).used + recWords r + 3 ∧
        (unit t u).recs = (unit s u).recs ++ [{ r with words := recordWords r }] ∧
        (r.final = true → txnAfter r.txn (obj s Obj.LastCommittedTxn) = true → obj t Obj.LastCommittedTxn = r.txn) ∧
        Only [(Obj.LastCommittedTxn, Obj.LastCommittedTxn)] [.flash] s t) ∧
    (s.flash.work = some (.record r) → journalUnit s (recWords r + 3) = some u →
      Runs (.recordProgrammed .failed) s fun t =>
        t.flash.work = some (.record r) ∧ (unit t u).used = (unit s u).used + recWords r + 3 ∧ (unit t u).recs = (unit s u).recs ∧ Only [] [.flash] s t) ∧
    (s.flash.work = some (.erase u n) → n < 16 →
      Runs (.erasePulseEnd true) s fun t =>
        t.flash.work = none ∧ (unit t u).st = .free ∧ (unit t u).count = (unit s u).count + 1 ∧ (unit t u).used = 0 ∧ (unit t u).recs = [] ∧
        Only [] [.flash] s t) ∧
    (s.flash.work = some (.erase u n) → n < 19 →
      Runs (.erasePulseEnd false) s fun t => t.flash.work = some (.erase u (n + 1)) ∧ t.flash.units = s.flash.units ∧ Only [] [.flash] s t)

/-! ### The interval timer -/

/-- R249, R269 to R272, R282, R286: the timer arbiter begins a batch with its calibration and grants the sequencer first; a pair that fails three batches
gives way to the spare. What a retest waits for is the model's reading (log entry 22). -/
def Obligations.TimerArbiter : Prop :=
  ∀ (s : State) (epoch : Nat) (a b c : CalSums) (q : TimerReq) (k : Nat) (g : Grant),
    (isFull s = true → s.pw.hfFailed = false → s.tdc.calibrating = false → s.tdc.grant = none → s.tdc.waiting ≠ [] → obj s Obj.TdcMode ≠ 2 →
      batchDue s = true → 2 ≤ (tdcActive s).length →
      Runs (.timerGrant epoch) s fun t =>
        t.tdc.calibrating = true ∧ t.tdc.batch = true ∧ t.tdc.cals = [] ∧ t.tdc.waiting = s.tdc.waiting ∧ t.clk.mclk = true ∧ Only [] [.tdc, .clk] s t) ∧
    (isFull s = true → s.pw.hfFailed = false → s.tdc.calibrating = false → s.tdc.grant = none → obj s Obj.TdcMode ≠ 2 → batchDue s = false →
      s.tdc.waiting = [(q, k)] ∨ q = .sequencer ∧ s.tdc.waiting.any (fun w => w.1 == .sequencer) = true →
      Runs (.timerGrant epoch) s fun t =>
        t.tdc.grant = some ⟨q, if q = .frequency then stampDue s else none, [], false, false, [], none, epoch⟩ ∧
        t.tdc.waiting = s.tdc.waiting.filter (fun w => decide (w.1 ≠ q)) ∧ t.pads.tcomLow = decide (q = .temperature) ∧ Only [] [.tdc, .clk, .pads] s t) ∧
    (s.tdc.calibrating = true → s.tdc.retried = false → s.tdc.retest = [] → obj s Obj.TdcMode = 0 → tdcActive s = [0, 1] →
      calPasses (obj s Obj.TdcCalAverage) a = true → calPasses (obj s Obj.TdcCalAverage) b = true →
      Runs (.tdcCalibrationEnd epoch a b c) s fun t =>
        t.tdc.calibrating = false ∧ t.tdc.calTick = ticks s ∧ mfind t.tdc.cals 0 = some ⟨a.s1, a.s2, obj s Obj.TdcCalAverage, true⟩ ∧
        mfind t.tdc.cals 1 = some ⟨b.s1, b.s2, obj s Obj.TdcCalAverage, true⟩ ∧
        obj t (Obj.TdcStepSize 1) = (roundDiv (obj s Obj.TdcCalAverage * 31250000) ((a.s2 : Int) - a.s1)).toNat ∧
        (s.tdc.waiting ≠ [] → t.tdc.grant.isSome = true) ∧
        Only [(Obj.TdcStepSize 1, Obj.TdcStepSize 2)] [.tdc, .pads] s t) ∧
    (s.tdc.calibrating = true → s.tdc.retried = false → s.tdc.waiting ≠ [] → tdcActive s = [0, 1] → calPasses (obj s Obj.TdcCalAverage) a = false →
      Runs (.tdcCalibrationEnd epoch a b c) s fun t => t.tdc.calibrating = true ∧ t.tdc.retried = true ∧ t.tdc.grant = s.tdc.grant) ∧
    (s.tdc.calibrating = true → s.tdc.retried = false → s.tdc.retest = [] → s.tdc.waiting = [] → obj s Obj.TdcMode = 0 → tdcActive s = [0, 1] →
      obj s (Obj.TdcPairState 3) = 1 → mget s.tdc.failRun 0 0 = 2 → calPasses (obj s Obj.TdcCalAverage) a = false →
      calPasses (obj s Obj.TdcCalAverage) b = true →
      Runs (.tdcCalibrationEnd epoch a b c) s fun t =>
        obj t (Obj.TdcPairState 1) = 2 ∧ obj t (Obj.TdcPairState 3) = 0 ∧ tdcActive t = [1, 2] ∧
        (eventRoom s = true → queued t 0x2002 (t48 s) [0, 2] = true)) ∧
    (s.tdc.grant = some g → g.req ≠ .sequencer → s.tdc.waiting.any (fun w => w.1 == .sequencer) = true →
      Runs .timerPreempt s fun t =>
        t.tdc.grant = none ∧ t.tdc.cals = s.tdc.cals ∧
        obj t (Obj.TimerPreemptCount (timerSub g.req)) = next32 (obj s (Obj.TimerPreemptCount (timerSub g.req))))

/-- R264 to R268, R266, R281: a hit becomes its result on the next pair's turn, a hit on a pair still converting is dropped and marked, a coarse overflow ends
the grant; the results go to the requester together.
R275, R280: a FIN measurement starts with a request of the timer, its second arm grant comes after the gate time, and a missing signal is reported once. -/
def Obligations.HitsAndFin : Prop :=
  ∀ (s : State) (g : Grant) (coarse count p edges t0 : Nat) (samples : List Int) (up : Bool) (rest : List (Nat × Bool)) (f : FinRun) (h : Hit)
      (start n : Nat),
    (s.tdc.grant = some g → 2 ≤ coarse → coarse < 2 ^ 20 → g.hits.length < hitsWanted s g.req → pairFor s g.hits.length = some p →
      heldOff s g (hitTime (resultOn s p coarse count)) = false → pairBusy g p (hitTime (resultOn s p coarse count)) = false →
      Runs (.tdcHit coarse count) s fun t =>
        t.tdc.grant.map (·.hits) = some (g.hits ++ [resultOn s p coarse count]) ∧ Only [] [.tdc] s t) ∧
    (s.tdc.grant = some g → 2 ≤ coarse → coarse < 2 ^ 20 → g.hits.length < hitsWanted s g.req → pairFor s g.hits.length = some p →
      heldOff s g (hitTime (resultOn s p coarse count)) = false → pairBusy g p (hitTime (resultOn s p coarse count)) = true →
      Runs (.tdcHit coarse count) s fun t =>
        t.tdc.grant = some { g with close := true } ∧ obj t Obj.TdcCloseHitCount = next32 (obj s Obj.TdcCloseHitCount) ∧
        Only [(Obj.TdcCloseHitCount, Obj.TdcCloseHitCount)] [.tdc] s t) ∧
    (s.tdc.grant = some g → g.hits.length < hitsWanted s g.req → g.req ≠ .frequency ∨ g.stamp.isSome = true →
      Runs .tdcOverflow s fun t => t.tdc.grant = none ∧ obj t Obj.TdcOverflowCount = next32 (obj s Obj.TdcOverflowCount)) ∧
    (s.tdc.grant = some g → g.req = .sequencer → s.acou.plan = (p, up) :: rest →
      Runs (.timerGrantEnd samples edges) s fun t =>
        t.tdc.grant = none ∧ t.acou.plan = rest ∧
        t.acou.shots = s.acou.shots ++ [judgeShot s p up g.hits samples]) ∧
    (s.tdc.grant = some g → g.req = .frequency → g.stamp = none → s.tdc.fin = some f → f.t0 = none → g.hits = [h] → h.valid = true →
      Runs (.timerGrantEnd samples edges) s fun t =>
        t.tdc.grant = none ∧ t.tdc.fin = some ⟨f.start, some (g.epoch * 65536 + hitTime h), f.gateTick, 0⟩ ∧ Only [] [.tdc] s t) ∧
    (s.tdc.grant = some g → g.req = .frequency → g.stamp = none → s.tdc.fin = some f → f.t0 = some t0 → g.hits = [h] → h.valid = true →
      Runs (.timerGrantEnd samples edges) s fun t =>
        t.tdc.fin = none ∧ obj t Obj.FinFrequency =
          finFrequency s (finEdges s edges (g.epoch * 65536 + hitTime h - t0)) (g.epoch * 65536 + hitTime h - t0) ∧ obj t Obj.FinStatus = 0 ∧
        obj t Obj.FinMeasureTime = t48 s ∧
        Only [(Obj.FinFrequency, Obj.FinFrequency), (Obj.FinMeasureTime, Obj.FinMeasureTime), (Obj.FinStatus, Obj.FinStatus)] [.tdc] s t) ∧
    (isFull s = true → obj s Obj.FinEnable = 1 → s.tdc.fin = none → obj s Obj.TdcMode ≠ 2 →
      Runs .finMeasurementStart s fun t =>
        t.tdc.fin = some ⟨ticks s, none, none, 0⟩ ∧ t.tdc.waiting.any (fun w => w.1 == .frequency) = true ∧ Only [] [.tdc, .clk] s t) ∧
    (s.tdc.fin = some ⟨start, some t0, none, n⟩ → obj s Obj.TdcMode ≠ 2 →
      Runs .finGateEnd s fun t =>
        t.tdc.fin = some ⟨start, some t0, some (ticks s), n⟩ ∧ t.tdc.waiting.any (fun w => w.1 == .frequency) = true ∧ Only [] [.tdc] s t) ∧
    (s.tdc.fin = some f → finLate s f = true →
      Runs .finNoSignal s fun t =>
        t.tdc.fin = none ∧ obj t Obj.FinStatus = 1 ∧ (obj s Obj.FinStatus ≠ 1 → eventRoom s = true → queued t 0x2006 (t48 s) [] = true) ∧
        Only [(Obj.FinStatus, Obj.FinStatus), (Obj.EventsLost, Obj.EventsLost)] [.tdc, .tally, .clk] s t)

/-! ### Acoustic paths and flow -/

/-- R308, R310 to R313, R316, R303, R463: a cycle start tick starts a cycle with its plan of shots, or is held as an overrun, or runs no cycle while the timer
is unavailable; the last shot's results end the cycle. The batch readings behind a plan are the model's (log entry 23). -/
def Obligations.AcousticCycle : Prop :=
  ∀ (s : State) (charge p vbat vbk : Nat),
    (isFull s = true → s.acou.running = false → obj s Obj.TdcMode ≠ 2 → s.pw.hfFailed = false → s.temp.firstDue = false →
      Runs (.cycleStartTick vbat vbk) s fun t =>
        obj t Obj.VbatMeasured = vbat % 65536 ∧ obj t Obj.VbkMeasured = vbk % 65536 ∧
        t.acou.running = true ∧ t.acou.shots = [] ∧ t.acou.cycleStart = some (ticks s) ∧ t.pads.vdrv = true ∧ t.clk.mclk = true ∧
        getBit t Obj.CycleStatus 1 = false ∧ pendingOf t .acoustic = false ∧ pendingOf t .flow = false ∧ pendingOf t .heat = false ∧
        (s.pendBlocks = [] → (∀ c, s.flow.collect = some c → c.cycles < 64) → t.acou.plan = planOf s ∧ t.temp.inUse = tempsNow s)) ∧
    (isFull s = true → s.acou.running = false → obj s Obj.TdcMode ≠ 2 → s.pw.hfFailed = false → s.temp.firstDue = true →
      Runs (.cycleStartTick vbat vbk) s fun t =>
        t.acou.running = false ∧ t.acou.heldTick = true ∧ t.temp.conv.isSome = true) ∧
    (isFull s = true → s.acou.running = true →
      Runs (.cycleStartTick vbat vbk) s fun t =>
        t.acou.heldTick = true ∧ t.acou.plan = s.acou.plan ∧ obj t Obj.OverrunCount = next32 (obj s Obj.OverrunCount) ∧
        getBit t Obj.CycleStatus 0 = true ∧
        (getBit s Obj.CycleStatus 0 = false → eventRoom s = true → queued t 0x2101 (t48 s) [] = true)) ∧
    (isFull s = true → s.acou.running = false → obj s Obj.TdcMode = 2 ∨ s.pw.hfFailed = true →
      Runs (.cycleStartTick vbat vbk) s fun t =>
        t.acou.running = false ∧ t.acou.noCycleRun = s.acou.noCycleRun + 1 ∧ t.accs.volFwd = s.accs.volFwd ∧ t.accs.volRev = s.accs.volRev) ∧
    (8 ≤ s.acou.ownTicks → getBit s Obj.CycleStatus 0 = true →
      Runs .overrunCleared s fun t => getBit t Obj.CycleStatus 0 = false ∧ Only [(Obj.CycleStatus, Obj.CycleStatus)] [] s t) ∧
    (s.acou.running = true → s.acou.plan ≠ [] → s.tdc.grant = none → obj s Obj.TdcMode ≠ 2 →
      Runs .shotLaunch s fun t => t.tdc.waiting.any (fun w => w.1 == .sequencer) = true ∧ Only [] [.tdc] s t) ∧
    (s.acou.running = true → s.acou.plan = [] → shotOut s = false →
      Runs (.cycleResults charge) s fun t =>
        t.acou.running = s.acou.heldTick ∧ t.acou.shots = [] ∧ obj t Obj.CycleCount = next32 (obj s Obj.CycleCount) ∧
        obj t Obj.ChargePerCycle = charge % 2 ^ 32 ∧
        (p < 4 → s.acou.shots.filter (fun x => decide (x.path = p)) ≠ [] →
          obj t (Obj.RxAmplitude (p + 1)) = meanAmp (s.acou.shots.filter (fun x => decide (x.path = p)))))

/-- R302, R307, R317, R318, R320 to R322: what becomes of a path: resynchronised after three cycle skips, driven no more while SHORT, FAILED and recovered,
low, and the end of a template capture that found no echo. -/
def Obligations.PathVerdicts : Prop :=
  ∀ (s : State) (p : Fin 4) (n : Nat),
    (3 ≤ (loopOf s p.val).skipUp →
      Runs (.cycleSkipResync p true) s fun t =>
        (loopOf t p.val).texpUp = (loopOf s p.val).lastUp ∧ (loopOf t p.val).texpDown = (loopOf s p.val).texpDown ∧ (loopOf t p.val).skipUp = 0 ∧
        Only [] [.acou] s t) ∧
    (3 ≤ (loopOf s p.val).skipDown →
      Runs (.cycleSkipResync p false) s fun t =>
        (loopOf t p.val).texpDown = (loopOf s p.val).lastDown ∧ (loopOf t p.val).skipDown = 0 ∧ Only [] [.acou] s t) ∧
    (s.acou.running = true → s.acou.plan.any (fun e => decide (e.1 = p.val)) = true →
      Runs (.pathShort p) s fun t =>
        t.acou.plan = s.acou.plan.filter (fun e => decide (e.1 ≠ p.val)) ∧ getBit t (Obj.PathStatus (p.val + 1)) 5 = true ∧
        getBit t (Obj.PathStatus (p.val + 1)) 6 = true ∧ isShot t p.val = false ∧ getBit t Obj.ErrorFlags 4 = true ∧
        (eventRoom s = true → queued t 0x2104 (t48 s) [] = true) ∧
        Only ((Obj.PathStatus (p.val + 1), Obj.PathStatus (p.val + 1)) :: eventKeys) [.acou, .tdc, .tally, .radio, .clk] s t) ∧
    (obj s Obj.PathFailCycles ≤ (loopOf s p.val).badRun → getBit s (Obj.PathStatus (p.val + 1)) 6 = false → pathServed s p.val = false →
      Runs (.pathFailed p) s fun t =>
        getBit t (Obj.PathStatus (p.val + 1)) 6 = true ∧ getBit t Obj.ErrorFlags 4 = true ∧
        (eventRoom s = true → queued t 0x2105 (t48 s) [] = true) ∧
        Only ((Obj.PathStatus (p.val + 1), Obj.PathStatus (p.val + 1)) :: eventKeys) [.acou, .tally, .radio, .clk] s t) ∧
    (64 ≤ (loopOf s p.val).goodRun → getBit s (Obj.PathStatus (p.val + 1)) 6 = true → getBit s (Obj.PathStatus (p.val + 1)) 4 = false →
      getBit s (Obj.PathStatus (p.val + 1)) 5 = false →
      Runs (.pathRecovered p) s fun t =>
        getBit t (Obj.PathStatus (p.val + 1)) 6 = false ∧ (eventRoom s = true → queued t 0x2106 (t48 s) [] = true) ∧
        (anyPathFailed t = false → getBit t Obj.ErrorFlags 4 = false) ∧
        Only ((Obj.PathStatus (p.val + 1), Obj.PathStatus (p.val + 1)) :: eventKeys) [.acou, .tally, .radio, .clk] s t) ∧
    (1024 ≤ (loopOf s p.val).lowRun → (loopOf s p.val).lowLogged = false →
      Runs (.pathLowSignal p) s fun t =>
        (loopOf t p.val).lowLogged = true ∧ (eventRoom s = true → queued t 0x2102 (t48 s) [] = true) ∧
        Only [(Obj.EventsLost, Obj.EventsLost)] [.acou, .tally, .clk] s t) ∧
    (s.acou.capture = some n → 8 ≤ n → s.acou.running = false →
      Runs .templateCaptureFailed s fun t =>
        t.acou.capture = none ∧ obj t Obj.TemplateStatus = 2 ∧ Only [(Obj.TemplateStatus, Obj.TemplateStatus)] [.acou] s t)

/-- R334, R337, R340, R342: spells of reverse flow, a mismatched speed of sound, the zero-flow loop, the end of a zero calibration. -/
def Obligations.FlowEvents : Prop :=
  ∀ (s : State) (t0 p : Nat) (z : ZeroCal),
    (s.flow.revSince = some t0 → obj s Obj.ReverseAlarmTime * 32768 ≤ ticks s - t0 → getBit s Obj.FlowStatus 5 = false →
      Runs .reverseFlow s fun t =>
        getBit t Obj.FlowStatus 5 = true ∧ getBit t Obj.ErrorFlags 12 = true ∧ (eventRoom s = true → queued t 0x2208 (t48 s) [] = true) ∧
        Only ((Obj.FlowStatus, Obj.FlowStatus) :: eventKeys) [.tally, .radio, .clk] s t) ∧
    (s.flow.revClear = some t0 → obj s Obj.ReverseAlarmTime * 32768 ≤ ticks s - t0 → getBit s Obj.FlowStatus 5 = true →
      Runs .reverseCleared s fun t =>
        getBit t Obj.FlowStatus 5 = false ∧ getBit t Obj.ErrorFlags 12 = false ∧
        Only [(Obj.FlowStatus, Obj.FlowStatus), (Obj.ErrorFlags, Obj.ErrorFlags), (Obj.IrqStatus, Obj.IrqStatus)] [] s t) ∧
    (64 ≤ s.flow.sosRun → getBit s Obj.FlowStatus 6 = false →
      Runs .sosMismatch s fun t =>
        getBit t Obj.FlowStatus 6 = true ∧ (eventRoom s = true → queued t 0x2206 (t48 s) [] = true) ∧
        Only [(Obj.FlowStatus, Obj.FlowStatus), (Obj.EventsLost, Obj.EventsLost)] [.tally, .clk] s t) ∧
    (s.flow.holdSince = some t0 → obj s Obj.ZeroAdaptHold * 32768 ≤ ticks s - t0 → s.flow.adapting = false → s.flow.zeroCal = none →
      s.flow.diffs.all (fun e => decide (e.1 < 4)) = true →
      Runs .zeroAdapting s fun t =>
        t.flow.adapting = true ∧ getBit t Obj.FlowStatus 7 = true ∧
        Only [(Obj.ZeroOffset 1, Obj.ZeroOffset 4), (Obj.FlowStatus, Obj.FlowStatus), (Obj.EventsLost, Obj.EventsLost)]
          [.flow, .flash, .tally, .clk] s t) ∧
    (s.flow.zeroCal = some z → z.left = 0 → (enabledPaths s).any (fun q => decide (mget z.counts q 0 < 56)) = true →
      Runs .zeroCalibrated s fun t =>
        t.flow.zeroCal = none ∧ (eventRoom s = true → queued t 0x2209 (t48 s) [1] = true) ∧
        Only [(Obj.EventsLost, Obj.EventsLost)] [.flow, .tally, .clk] s t) ∧
    (s.flow.zeroCal = some z → z.left = 0 → (enabledPaths s).any (fun q => decide (mget z.counts q 0 < 56)) = false →
      obj s Obj.ZeroOffsetLimit < 2 ^ 31 →
      Runs .zeroCalibrated s fun t =>
        t.flow.zeroCal = none ∧ (eventRoom s = true → queued t 0x2209 (t48 s) [0] = true) ∧
        ((enabledPaths s).contains p = true → objI 4 t (Obj.ZeroOffset (p + 1)) =
          clampI (-(obj s Obj.ZeroOffsetLimit : Int)) (obj s Obj.ZeroOffsetLimit)
            (roundDiv (mget z.sums p 0 * 15625000) (32768 * (mget z.counts p 0 : Nat)))) ∧
        Only [(Obj.ZeroOffset 1, Obj.ZeroOffset 4), (Obj.EventsLost, Obj.EventsLost)] [.flow, .tally, .flash, .clk] s t)

/-! ### Temperature, electricity, pulses -/

/-- R361, R362, R367, R368, R370, R384, R385: a conversion and its resistances, standby ports, ports that disagree, recover or go stale. Rounding follows log
entry 9. -/
def Obligations.Temperatures : Prop :=
  ∀ (s : State) (c : Conv) (x : Fin 4) (v : Nat) (role p q t0 : Nat),
    (isFull s = true → s.pw.hfFailed = false → obj s Obj.TdcMode ≠ 2 → s.temp.conv = none → shotsLeft s = false →
      ticks s % (obj s Obj.ConversionInterval * 32768) = 0 → pendingOf s .temperature = false → s.temp.sensorPend = none →
      Runs .conversionStart s fun t =>
        t.temp.conv = some ⟨dischargeOrder s, [], [], 0⟩ ∧ t.temp.due = false ∧ t.tdc.waiting.any (fun w => w.1 == .temperature) = true ∧
        t.clk.mclk = true ∧
        Only [(Obj.HeatStatus, Obj.HeatStatus), (Obj.EventsLost, Obj.EventsLost)] [.temp, .tdc, .flash, .tally, .clk] s t ∧
        (standbyRole false s 1 = s → standbyRole false s 2 = s → Only [] [.temp, .tdc, .clk] s t)) ∧
    (isFull s = true → s.pw.hfFailed = false → obj s Obj.TdcMode ≠ 2 → s.temp.conv = none → shotsLeft s = true →
      ticks s % (obj s Obj.ConversionInterval * 32768) = 0 →
      Runs .conversionStart s fun t => t.temp.due = true ∧ t.temp.conv = none ∧ Only [] [.temp, .clk] s t) ∧
    (s.temp.conv = some c → c.todo = [] →
      Runs .conversionEnd s fun t =>
        t.temp.conv = none ∧ obj t Obj.LastConversionTime = t48 s ∧ obj t Obj.ConversionCount = next32 (obj s Obj.ConversionCount) ∧
        (c.overflow.contains 1 = true → getBit t Obj.TempConversionStatus 0 = true ∧
          obj t (Obj.PortResistance (x.val + 1)) = obj s (Obj.PortResistance (x.val + 1))) ∧
        (c.overflow = [] → s.temp.refPrev = none →
          refInLimits (roundDiv (((mget c.times 1 0 : Nat) - (mget c.times 0 0 : Nat) : Int) * hfScale s) 10000000000) = true →
          obj s (Obj.PortRole (x.val + 1)) ≠ 0 → v < 2 ^ 32 →
          (v : Int) = roundDiv ((obj s Obj.RefResistance : Int) * ((mget c.times (x.val + 2) 0 : Nat) - (mget c.times 0 0 : Nat)))
            ((mget c.times 1 0 : Nat) - (mget c.times 0 0 : Nat)) - (obj s (Obj.LeadResistance (x.val + 1)) : Int) →
          obj t (Obj.PortResistance (x.val + 1)) = v ∧ getBit t Obj.TempConversionStatus 0 = false)) ∧
    (s.temp.standbyUsed.contains role = true → 8 ≤ mget s.temp.primaryRun role 0 →
      Runs (.standbyReleased role) s fun t =>
        t.temp.standbyUsed.contains role = false ∧ getBit t Obj.HeatStatus 4 = decide (t.temp.standbyUsed ≠ []) ∧
        (eventRoom s = true → queued t 0x2306 (t48 s) [] = true) ∧
        Only [(Obj.HeatStatus, Obj.HeatStatus), (Obj.EventsLost, Obj.EventsLost)] [.temp, .flash, .tally, .clk] s t) ∧
    (portOf s role = some p → portOf s (role + 2) = some q → 8 ≤ mget s.temp.disagreeRun role 0 → getBit s (Obj.PortStatus (p + 1)) 5 = false →
      Runs (.sensorDisagree role) s fun t =>
        getBit t (Obj.PortStatus (p + 1)) 5 = true ∧ getBit t (Obj.PortStatus (q + 1)) 5 = true ∧
        (eventRoom s = true → queued t 0x2307 (t48 s) [] = true)) ∧
    (getBit s (Obj.PortStatus (x.val + 1)) 1 = true ∨ getBit s (Obj.PortStatus (x.val + 1)) 2 = true → 8 ≤ (portSt s x.val).goodRun →
      Runs (.sensorRecovered x) s fun t =>
        getBit t (Obj.PortStatus (x.val + 1)) 1 = false ∧ getBit t (Obj.PortStatus (x.val + 1)) 2 = false ∧
        (anySensorFault t = false → getBit t Obj.ErrorFlags 3 = false) ∧ (eventRoom s = true → queued t 0x2309 (t48 s) [] = true)) ∧
    ((portSt s x.val).lastTick = some t0 → 3 * obj s Obj.ConversionInterval * 32768 < ticks s - t0 → obj s (Obj.PortRole (x.val + 1)) ≠ 0 →
      getBit s (Obj.PortStatus (x.val + 1)) 4 = false →
      Runs (.portStale x) s fun t => getBit t (Obj.PortStatus (x.val + 1)) 4 = true ∧ portValid t x.val = false)

/-- R390 to R393, R397, R418, R425: samples go into the sums of the open block, line cycles make a block, the block its means and a latch; a lost line sets
NO_LINE, ten valid cycles clear it. The rows at which samples reach the block are the model's (log entry 61).
R403 to R405: a voltage excursion keeps its start and logs, when it ends, its kind, duration in half cycles and extreme. -/
def Obligations.Electricity : Prop :=
  ∀ (s : State) (period : Nat) (ph : Phasors) (xs : List ElecSample) (y : ElecSample) (v : Nat) (chB to16 : Bool) (u e n : Nat) (x : Excursion),
    (elecRuns s = true → noLine s = false → s.elec.blockOpen = true → 45000 ≤ lineFrequency s period → lineFrequency s period ≤ 65000 →
      Runs (.lineCycleEnd period ph xs) s fun t =>
        t.elec.cycles = s.elec.cycles + 1 ∧ t.elec.sums = (addSamples s xs).elec.sums ∧ (obj t Obj.LineFrequency : Int) = lineFrequency s period ∧ t.elec.validCycles = s.elec.validCycles + 1 ∧
        mget t.elec.pSum 1 0 = mget s.elec.pSum 1 0 + (ph.vRe * ph.aRe + ph.vIm * ph.aIm) ∧
        Only [(Obj.LineFrequency, Obj.LineFrequency), (Obj.ElecStatus, Obj.ElecStatus), (Obj.EventsLost, Obj.EventsLost)] [.elec, .tally, .clk] s t ∧
        (xs.all (fun z => !fullScale z) = true → Only [(Obj.LineFrequency, Obj.LineFrequency)] [.elec] s t)) ∧
    (elecRuns s = true → noLine s = true →
      Runs (.lineCycleEnd period ph xs) s fun t =>
        t.elec.cycles = s.elec.cycles ∧
        Only [(Obj.ElecStatus, Obj.ElecStatus), (Obj.EventsLost, Obj.EventsLost)] [.elec, .tally, .clk] s t ∧
        (xs.all (fun z => !fullScale z) = true → Only [] [.elec] s t)) ∧
    (elecRuns s = true → s.elec.blockOpen = true → blockOver s = true → pendingOf s .elec = false →
      Runs (.blockClose xs) s fun t =>
        t.elec.blockOpen = true ∧ t.elec.cycles = 0 ∧ (latchRoom s = true → obj t Obj.LatchSequence = next32 (obj s Obj.LatchSequence)) ∧
        (obj s Obj.ChannelBMode ≠ 1 →
          (v : Int) = rmsCurrent (addSamples s xs).elec.sums.sumIIa (obj s (Obj.CurrentScale 1)) (addSamples s xs).elec.sums.m → v < 2 ^ 32 →
          obj t (Obj.CurrentRms 1) = v) ∧
        ((v : Int) = rmsVoltage (addSamples s xs).elec.sums.sumVV (obj s Obj.VoltageScale) (addSamples s xs).elec.sums.m → v < 2 ^ 32 →
          obj t Obj.VoltageRms = v)) ∧
    (elecRuns s = true → gainMaySwitch s (if chB then 2 else 1) to16 xs = true →
      Runs (.gainSwitch chB to16 xs) s fun t =>
        obj t (Obj.CurrentGain (if chB then 2 else 1)) = (if to16 then 16 else 1) ∧
        Only [(Obj.CurrentGain 1, Obj.CurrentGain 2), (Obj.ElecStatus, Obj.ElecStatus), (Obj.EventsLost, Obj.EventsLost)] [.elec, .tally, .clk] s t) ∧
    (elecRuns s = true → gainMaySwitch s (if chB then 2 else 1) to16 xs = false →
      Runs (.gainSwitch chB to16 xs) s fun t =>
        obj t (Obj.CurrentGain 1) = obj s (Obj.CurrentGain 1) ∧ obj t (Obj.CurrentGain 2) = obj s (Obj.CurrentGain 2)) ∧
    (elecRuns s = true → s.elec.blockOpen = true →
      Runs (.currentOverload y) s fun t =>
        t.elec.sums.m = s.elec.sums.m + 1 ∧ t.elec.sums.sumVV = s.elec.sums.sumVV + y.v.natAbs * y.v.natAbs ∧
        mget t.elec.coil 1 0 = roundDiv (mget s.elec.coil 1 0 * 4095) 4096 + sampleCurrent s 1 y.a1 y.a16 ∧
        mget t.elec.coil 2 0 = roundDiv (mget s.elec.coil 2 0 * 4095) 4096 + sampleCurrent s 2 y.b1 y.b16 ∧
        (obj s (Obj.CurrentSensor 1) ≠ 2 → mget s.elec.corrGain 1 0 = 0 →
          t.elec.sums.sumIIa = s.elec.sums.sumIIa + (sampleCurrent s 1 y.a1 y.a16).natAbs * (sampleCurrent s 1 y.a1 y.a16).natAbs)) ∧
    (elecRuns s = true → fullScale y = true →
      Runs (.currentOverload y) s fun t =>
        getBit t Obj.ElecStatus 1 = true ∧ t.elec.clipped = true ∧
        (getBit s Obj.ElecStatus 1 = false → eventRoom s = true → queued t 0x2506 (t48 s) [] = true) ∧
        Only [(Obj.ElecStatus, Obj.ElecStatus), (Obj.EventsLost, Obj.EventsLost)] [.elec, .tally, .clk] s t) ∧
    (elecRuns s = true → noLine s = false → s.elec.badFreq = true →
      Runs .noLine s fun t =>
        noLine t = true ∧ obj t Obj.LineFrequency = 0 ∧ t.rtc.mains = none ∧ t.elec.validCycles = 0 ∧ getBit t Obj.ErrorFlags 8 = true ∧
        (eventRoom s = true → queued t 0x2504 (t48 s) [] = true)) ∧
    (elecRuns s = true → noLine s = true → 10 ≤ s.elec.validCycles →
      Runs .lineRestored s fun t =>
        noLine t = false ∧ t.elec.noLineSince = none ∧ getBit t Obj.ErrorFlags 8 = false ∧ (eventRoom s = true → queued t 0x2505 (t48 s) [] = true)) ∧
    (elecRuns s = true → s.elec.excursion = none → u * 10 < bandEdge s (obj s Obj.SagThreshold) →
      Runs (.voltageExcursionStart u) s fun t => t.elec.excursion = some ⟨t48 s, ticks s, true⟩ ∧ Only [] [.elec] s t) ∧
    (elecRuns s = true → s.elec.excursion = none → bandEdge s (obj s Obj.SagThreshold) ≤ u * 10 → bandEdge s (obj s Obj.SwellThreshold) < u * 10 →
      Runs (.voltageExcursionStart u) s fun t => t.elec.excursion = some ⟨t48 s, ticks s, false⟩ ∧ Only [] [.elec] s t) ∧
    (elecRuns s = true → noLine s = false → s.elec.excursion = some x → x.low = true → 1 ≤ n → n ≤ 65535 → e < 2 ^ 32 →
      bandEdge s (obj s Obj.SagThreshold + obj s Obj.VoltageHysteresis) ≤ u * 10 →
      u * 10 + bandEdge s (obj s Obj.VoltageHysteresis) ≤ bandEdge s (obj s Obj.SwellThreshold) →
      Runs (.voltageExcursionEnd u e n) s fun t =>
        t.elec.excursion = none ∧
        (bandEdge s (obj s Obj.InterruptThreshold) ≤ e * 10 →
          obj t (Obj.VoltageEventCount 1) = next32 (obj s (Obj.VoltageEventCount 1)) ∧
          (eventRoom s = true → queued t 0x2501 x.time (pl 4 n ++ pl 4 e) = true)) ∧
        (e * 10 < bandEdge s (obj s Obj.InterruptThreshold) →
          obj t (Obj.VoltageEventCount 3) = next32 (obj s (Obj.VoltageEventCount 3)) ∧
          (eventRoom s = true → queued t 0x2503 x.time (pl 4 n ++ pl 4 e) = true)) ∧
        Only [(Obj.VoltageEventCount 1, Obj.VoltageEventCount 3), (Obj.LastVoltageEvent, Obj.LastVoltageEvent), (Obj.EventsLost, Obj.EventsLost)]
          [.elec, .tally, .clk] s t) ∧
    (elecRuns s = true → noLine s = false → s.elec.excursion = some x → x.low = false → 1 ≤ n → n ≤ 65535 → e < 2 ^ 32 →
      bandEdge s (obj s Obj.SagThreshold + obj s Obj.VoltageHysteresis) ≤ u * 10 →
      u * 10 + bandEdge s (obj s Obj.VoltageHysteresis) ≤ bandEdge s (obj s Obj.SwellThreshold) →
      Runs (.voltageExcursionEnd u e n) s fun t =>
        t.elec.excursion = none ∧ obj t (Obj.VoltageEventCount 2) = next32 (obj s (Obj.VoltageEventCount 2)) ∧
        (eventRoom s = true → queued t 0x2502 x.time (pl 4 n ++ pl 4 e) = true))

/-- R407 to R412: an edge counts one pulse after its debounce, unless it comes within the hold-off; in quadrature the first input's rising edge counts, by the
second input's level, and edges on both within one debounce time count nothing; wire-cut checks mask an input and set WIRE_CUT at the second cut reading.
R415, R59: an output pulse that ends is counted and owed no more; after its space the next owed one starts, in full mode and with VIO valid. -/
def Obligations.Pulses : Prop :=
  ∀ (s : State) (p : Fin 4) (level other : Bool) (o : Fin 3),
    (inputOn s (p.val + 1) = true → (pulseIn s (p.val + 1)).masked = false → inQuad s (p.val + 1) = false → level = countLevel s (p.val + 1) →
      (pulseIn s (p.val + 1)).holdOff = false → obj s (Obj.PulseDebounce (p.val + 1)) ≠ 0 →
      Runs (.pulseEdgeCapture p level) s fun t =>
        (pulseIn t (p.val + 1)).captured = true ∧ getBit t (Obj.PulseInputStatus (p.val + 1)) 0 = level ∧ t.accs = s.accs ∧
        Only [(Obj.PulseInputStatus (p.val + 1), Obj.PulseInputStatus (p.val + 1))] [.pulse, .clk] s t) ∧
    (inputOn s (p.val + 1) = true → (pulseIn s (p.val + 1)).masked = false → inQuad s (p.val + 1) = false → level = countLevel s (p.val + 1) →
      (pulseIn s (p.val + 1)).holdOff = true →
      Runs (.pulseEdgeCapture p level) s fun t =>
        obj t (Obj.PulseOverRateCount (p.val + 1)) = next32 (obj s (Obj.PulseOverRateCount (p.val + 1))) ∧ t.accs = s.accs ∧
        getBit t (Obj.PulseInputStatus (p.val + 1)) 2 = true) ∧
    (inputOn s (p.val + 1) = true → (pulseIn s (p.val + 1)).captured = true → inQuad s (p.val + 1) = false → level = countLevel s (p.val + 1) →
      Runs (.pulseDebounceEnd p level other) s fun t =>
        mget t.accs.pulse (p.val + 1) 0 = mget s.accs.pulse (p.val + 1) 0 + 1 ∧ (pulseIn t (p.val + 1)).captured = false ∧
        (pulseIn t (p.val + 1)).holdOff = true ∧ (pulseIn t (p.val + 1)).lastTick = some (ticks s)) ∧
    (inputOn s (p.val + 1) = true → (pulseIn s (p.val + 1)).captured = true → level ≠ countLevel s (p.val + 1) →
      Runs (.pulseDebounceEnd p level other) s fun t =>
        (pulseIn t (p.val + 1)).captured = false ∧ t.accs = s.accs ∧
        Only [(Obj.PulseInputStatus (p.val + 1), Obj.PulseInputStatus (p.val + 1))] [.pulse] s t) ∧
    (inputOn s (p.val + 1) = true → (pulseIn s (p.val + 1)).captured = true → inQuad s (p.val + 1) = true → p.val % 2 = 0 →
      Runs (.pulseDebounceEnd p true other) s fun t =>
        mget t.accs.pulse (if other then p.val + 2 else p.val + 1) 0 = mget s.accs.pulse (if other then p.val + 2 else p.val + 1) 0 + 1 ∧
        (pulseIn t (p.val + 1)).captured = false ∧ (pulseIn t (p.val + 1)).holdOff = true) ∧
    (inputOn s (p.val + 1) = true → (pulseIn s (p.val + 1)).captured = true → inQuad s (p.val + 1) = true → p.val % 2 = 1 →
      Runs (.pulseDebounceEnd p true other) s fun t =>
        (pulseIn t (p.val + 1)).captured = false ∧ t.accs = s.accs ∧
        Only [(Obj.PulseInputStatus (p.val + 1), Obj.PulseInputStatus (p.val + 1))] [.pulse] s t) ∧
    (inputOn s (p.val + 1) = true → (pulseIn s (p.val + 1)).masked = false → quadClash s (p.val + 1) = true →
      Runs (.pulseEdgeCapture p level) s fun t =>
        obj t (Obj.QuadErrorCount (p.val / 2 + 1)) = next32 (obj s (Obj.QuadErrorCount (p.val / 2 + 1))) ∧ t.accs = s.accs ∧
        (pulseIn t (p.val + 1)).captured = false ∧ (pulseIn t (pairMate (p.val + 1))).captured = false) ∧
    ((pulseIn s (p.val + 1)).holdOff = true →
      Runs (.pulseHoldOffEnd p) s fun t => (pulseIn t (p.val + 1)).holdOff = false ∧ Only [] [.pulse] s t) ∧
    (inputOn s (p.val + 1) = true → obj s (Obj.PulseInputMode (p.val + 1)) = 3 → (pulseIn s (p.val + 1)).checking = false →
      Runs (.wireCutCheck p level) s fun t =>
        (pulseIn t (p.val + 1)).checking = true ∧ (pulseIn t (p.val + 1)).masked = true ∧ (pulseIn t (p.val + 1)).before = level ∧
        Only [] [.pulse] s t) ∧
    ((pulseIn s (p.val + 1)).checking = true → 1 ≤ (pulseIn s (p.val + 1)).cutRun → getBit s (Obj.PulseInputStatus (p.val + 1)) 1 = false →
      Runs (.wireCutSample p true) s fun t =>
        getBit t (Obj.PulseInputStatus (p.val + 1)) 1 = true ∧ getBit t Obj.ErrorFlags 9 = true ∧ (pulseIn t (p.val + 1)).checking = false ∧
        (eventRoom s = true → queued t 0x2601 (t48 s) [] = true)) ∧
    ((pulseIn s (p.val + 1)).checking = true → (pulseIn s (p.val + 1)).cutRun = 0 →
      Runs (.wireCutSample p true) s fun t =>
        (pulseIn t (p.val + 1)).cutRun = 1 ∧ (pulseIn t (p.val + 1)).checking = false ∧ Only [] [.pulse] s t) ∧
    ((pulseIn s (p.val + 1)).masked = true → (pulseIn s (p.val + 1)).checking = false → level = (pulseIn s (p.val + 1)).before →
      Runs (.wireCutMaskEnd p level) s fun t => (pulseIn t (p.val + 1)).masked = false ∧ Only [] [.pulse] s t) ∧
    ((outSt s (o.val + 1)).pulsing = true →
      Runs (.pulseOutEnd o) s fun t =>
        obj t (Obj.PulseOutBacklog (o.val + 1)) = obj s (Obj.PulseOutBacklog (o.val + 1)) - 1 ∧
        obj t (Obj.PulseOutCount (o.val + 1)) = (obj s (Obj.PulseOutCount (o.val + 1)) + 1) % 2 ^ 64 ∧
        outSt t (o.val + 1) = ⟨false, true, ticks s⟩ ∧ mget t.pads.po (o.val + 1) true = false ∧
        Only [(Obj.PulseOutBacklog (o.val + 1), Obj.PulseOutBacklog (o.val + 1)), (Obj.PulseOutCount (o.val + 1), Obj.PulseOutCount (o.val + 1))]
          [.pulse, .pads] s t) ∧
    ((outSt s (o.val + 1)).spacing = true → s.ports.vioOk = false →
      Runs (.pulseOutSpaceEnd o) s fun t => outSt t (o.val + 1) = ⟨false, false, ticks s⟩ ∧ Only [] [.pulse] s t) ∧
    ((outSt s (o.val + 1)).spacing = true → isFull s = true → s.ports.vioOk = true → 0 < obj s (Obj.PulseOutBacklog (o.val + 1)) →
      Runs (.pulseOutSpaceEnd o) s fun t =>
        outSt t (o.val + 1) = ⟨true, false, ticks s⟩ ∧ mget t.pads.po (o.val + 1) false = true ∧ Only [] [.pulse, .pads] s t) ∧
    ((outSt s (o.val + 1)).spacing = true → obj s (Obj.PulseOutBacklog (o.val + 1)) = 0 →
      Runs (.pulseOutSpaceEnd o) s fun t => outSt t (o.val + 1) = ⟨false, false, ticks s⟩ ∧ Only [] [.pulse] s t)

/-! ### Time of day and the tally engine -/

/-- R434, R435, R437, R438: a set or a step takes effect at its LF edge, counts, is logged, ends a slew and leaves the trimmed count alone; a slew ends with its
last part; the weekday counts days.
R432, R443, R446, R448, R457: alarms, the periodic wake, the end of the calendar, a reference grown too old. -/
def Obligations.TimeOfDay : Prop :=
  ∀ (s : State) (v : Int) (cause : Nat) (a : Fin 2) (vbat vbk : Nat),
    (s.rtc.pendSet = some (v, cause) → gladeRuns s = true → cause ≤ 2 → 0 ≤ v →
      Runs .clockStep s fun t =>
        t.rtc.bin = v.toNat * 2 ^ 32 ∧ t.rtc.tk = s.rtc.tk ∧ t.rtc.slew = 0 ∧ t.rtc.pendSet = none ∧ t.rtc.valid = true ∧ t.rtc.restored = false ∧
        obj t Obj.StepCount = next32 (obj s Obj.StepCount) ∧
        (-(2 ^ 63) ≤ v - t48 s → v - t48 s < 2 ^ 63 → objI 8 t Obj.LastStepSize = v - t48 s) ∧
        (eventRoom s = true → queued t 0x3001 (t48 s) (pl 7 (ofInt 7 (v - t48 s)) ++ [cause]) = true)) ∧
    (s.rtc.pendSet = some (v, cause) → gladeRuns s = true → 2 < cause →
      Runs .clockStep s fun t =>
        t.rtc.bin = ((s.rtc.bin : Int) + v * 2 ^ 32).toNat ∧ t.rtc.tk = s.rtc.tk ∧ t.rtc.pendSet = none ∧
        obj t Obj.StepCount = next32 (obj s Obj.StepCount)) ∧
    (gladeRuns s = true → s.rtc.slew ≠ 0 → slewNow s = s.rtc.slew →
      Runs .slewEnd s fun t => t.rtc.slew = 0 ∧ t.rtc.bin = ((s.rtc.bin : Int) + s.rtc.slew).toNat ∧ t.rtc.tk = s.rtc.tk ∧ Only [] [.rtc] s t) ∧
    (gladeRuns s = true → s.rtc.dayChange < (localDay s).toNat →
      Runs .weekdayAdvance s fun t =>
        obj t Obj.Weekday = obj s Obj.Weekday % 7 + 1 ∧ t.rtc.bin = s.rtc.bin ∧ Only [(Obj.Weekday, Obj.Weekday)] [.rtc] s t) ∧
    (coreUp s = true → obj s Obj.LocalOffsetChangeTime ≠ 0 → obj s Obj.LocalOffsetChangeTime ≤ t48 s →
      Runs .offsetChanged s fun t =>
        obj t Obj.LocalOffset = obj s Obj.LocalOffsetNext ∧ obj t Obj.LocalOffsetChangeTime = 0 ∧ t.rtc.bin = s.rtc.bin ∧ t.rtc.tk = s.rtc.tk ∧
        (eventRoom s = true → queued t 0x3002 (t48 s) [obj s Obj.LocalOffset, obj s Obj.LocalOffsetNext] = true)) ∧
    (gladeRuns s = true → alarmMatches s (a.val + 1) (localSecs s) = true →
      Runs (.alarmFire a) s fun t =>
        getBit t Obj.AlarmFlags a.val = true ∧ (coreUp s = false → Only [(Obj.AlarmFlags, Obj.AlarmFlags)] [] s t) ∧
        (coreUp s = true → getBit t Obj.IrqStatus 3 = true ∧ t.clk.cclk ≠ .stopped ∧
          (eventRoom s = true → queued t (0x300A + a.val) (t48 s) [] = true))) ∧
    (gladeRuns s = true → obj s Obj.PeriodicWake ≠ 0 → s.rtc.wakeStart + obj s Obj.PeriodicWake * 2 ^ 40 ≤ s.rtc.tk →
      Runs (.periodicWake vbat vbk) s fun t =>
        t.rtc.wakeStart = s.rtc.wakeStart + obj s Obj.PeriodicWake * 2 ^ 40 ∧ (coreUp s = false → Only [] [.rtc] s t) ∧
        (coreUp s = true → obj t Obj.PeriodicWakeCount = next32 (obj s Obj.PeriodicWakeCount) ∧ obj t Obj.VbatMeasured = vbat % 65536 ∧
          obj t Obj.VbkMeasured = vbk % 65536 ∧ t.clk.cclk ≠ .stopped)) ∧
    (coreUp s = true → calendarLast < localSecs s → s.rtc.calEnd = false →
      Runs .calendarEnd s fun t =>
        t.rtc.calEnd = true ∧ t.rtc.bin = s.rtc.bin ∧ (eventRoom s = true → queued t 0x3009 (t48 s) [] = true) ∧
        Only [(Obj.EventsLost, Obj.EventsLost)] [.rtc, .tally, .clk] s t) ∧
    (coreUp s = true → s.rtc.disciplined = true → recentRef s = false →
      Runs .disciplineLost s fun t =>
        t.rtc.disciplined = false ∧ obj t Obj.RtcLoopTrim = obj s Obj.RtcLoopTrim ∧ (eventRoom s = true → queued t 0x3006 (t48 s) [] = true) ∧
        Only [(Obj.EventsLost, Obj.EventsLost)] [.rtc, .tally, .clk] s t)

/-- R462, R463, R470 to R472, R477, R486: latch triggers. Each takes one latch with the next `LatchSequence`, moves whole units out of the accumulators, and
leaves its snapshot or interval entry pending; triggers at one local second are one latch (log entry 98). Settings that a latch lets in apply after its
increases (log entry 14). -/
def Obligations.LatchTriggers : Prop :=
  ∀ (s : State) (tr : Trigger) (st : Int),
    (s.tally.postponed = some tr → s.tally.fifo.length < 4 →
      Runs .postponedLatchTaken s fun t =>
        t.tally.postponed = none ∧ t.tally.fifo.length = s.tally.fifo.length + 1 ∧ obj t Obj.LatchSequence = next32 (obj s Obj.LatchSequence) ∧
        obj t Obj.VolumeForward = (obj s Obj.VolumeForward + s.accs.volFwd / 1000000) % 2 ^ 64 ∧ t.accs.volFwd = s.accs.volFwd % 1000000 ∧
        obj t Obj.VolumeReverse = (obj s Obj.VolumeReverse + s.accs.volRev / 1000000) % 2 ^ 64 ∧ t.accs.volRev = s.accs.volRev % 1000000 ∧
        t.tally.latchUptime = uptime s ∧ getBit t Obj.IrqStatus 1 = true) ∧
    (boundariesRun s = true → s.tally.boundaryInit = true → boundaryDay s s.tally.boundaryLocal < boundaryDay s (localSecs s) → latchRoom s = true →
      Runs .billingBoundary s fun t =>
        obj t Obj.LatchSequence = next32 (obj s Obj.LatchSequence) ∧ t.tally.boundaryLocal = localSecs s ∧
        (intervalDue s = true → obj s Obj.StoreStage ≠ 2 → t.tally.intervalsPending.length = s.tally.intervalsPending.length + 1) ∧
        (obj s (Obj.LastBoundaryId 1) % 0x10000000 < dailyId s (localSecs s) → dailyId s (localSecs s) < 0x10000000 →
          obj t (Obj.LastBoundaryId 1) = storedDaily (dailyId s (localSecs s)) ∧
          (obj s Obj.StoreStage ≠ 2 → t.tally.snapsPending.any (fun x => decide (x.id = storedDaily (dailyId s (localSecs s)))) = true))) ∧
    (boundariesRun s = true → s.tally.boundaryInit = false →
      Runs .billingBoundary s fun t =>
        t.tally.boundaryInit = true ∧ obj t Obj.LatchSequence = obj s Obj.LatchSequence ∧
        Only [(Obj.LastBoundaryId 1, Obj.LastBoundaryId 2)] [.tally, .flash, .clk] s t) ∧
    (isFull s = true → latchRoom s = true →
      (subs4.zip s.tally.tariffHeld).any (fun e =>
        decide (obj s (Obj.TariffCondition e.1) = 2) && (windowHolds s e.1 (localSecs s) != e.2)) = true →
      Runs .tariffSwitchSecond s fun t =>
        obj t Obj.LatchSequence = next32 (obj s Obj.LatchSequence) ∧ t.tally.fifo.length = s.tally.fifo.length + 1) ∧
    (isFull s = true → s.tally.intervalStart = some st → st / (60 * (periodNow s : Int)) < localSecs s / (60 * (periodNow s : Int)) → latchRoom s = true →
      Runs .intervalEnd s fun t =>
        t.tally.intervalStart = some (localSecs s) ∧ t.tally.intervalPartial = false ∧ obj t Obj.LatchSequence = next32 (obj s Obj.LatchSequence) ∧
        (obj s Obj.StoreStage ≠ 2 → t.tally.intervalsPending.length = s.tally.intervalsPending.length + 1)) ∧
    (s.tally.intervalStart = none → Runs .intervalEnd s fun t => t = s)

/-! ### Lysef -/

/-- R497, R499, R503, R505 to R508, R510: the slave's own commands, decoded from the cells of their frames: it takes part in a search the mode and the bus's
history name it for, echoes its identity's complement, takes the address given to its identity, and takes the master's time. Where a frame's cells end is the
model's (log entry 94).
R498, R502 to R504, R530: a break empties the cell tracker, an idle line ends the frame in progress; an ACCESS with a bad HCK or address 0 is counted and
ignored, another device's ignored, its own carried out. HCK is ADDR xor CMD xor 0xA5. -/
def Obligations.LysefSlave : Prop :=
  ∀ (s : State) (c : LyCell) (rest a h x y k z : List LyCell) (partialFrame late free : Bool) (f : Frame) (d : ObjDef) (i : Instr) (cmd n : Nat),
    a ++ h ++ x ++ y ++ k ++ z = c :: rest →
    (slaveUp s = true → cmdIntact s (searchBytes (c :: rest)) 0x10 9 = true → s.ly.steady = true →
      lyField (searchBytes (c :: rest)) 0 1 = 0 ∨ lyField (searchBytes (c :: rest)) 0 1 = 1 ∧ obj s Obj.LysefNew = 1 →
      Runs (.searchStart a h x y k z) s fun t =>
        t.ly.answered = searchAnswers (Nat.xor (obj s Obj.DeviceIdentity) (lyField (searchBytes (c :: rest)) 1 8)) 64 true ((lyBits (c :: rest)).drop 112) ∧
        Only rateKeys [.ly] s t) ∧
    ((i, cmd, n) ∈ [(Instr.echo a h (x ++ y) (k ++ z), 0x12, 8), (Instr.assign a h x y (k ++ z), 0x13, 9), (Instr.time a h (x ++ y) (k ++ z), 0x20, 8)] →
      (slaveUp s = true →
        Runs i s fun t =>
          obj t Obj.LysefCellRateSeen = (roundDiv 1000000000 (c.space + c.mark : Nat)).toNat % 65536 ∧ t.ly.cell = c.space + c.mark) ∧
      (slaveUp s = true → lyHeader s (lyBytes (c :: rest)) cmd false = .silent → Runs i s fun t => Only rateKeys [.ly] s t ∧ t.ly.reply = s.ly.reply) ∧
      (slaveUp s = true → lyHeader s (lyBytes (c :: rest)) cmd false ≠ .silent → cmdIntact s (lyBytes (c :: rest)) cmd n = false →
        Runs i s fun t =>
          obj t Obj.LysefFrameErrors = next32 (obj s Obj.LysefFrameErrors) ∧ t.ly.reply = s.ly.reply ∧
          Only ((Obj.LysefFrameErrors, Obj.LysefFrameErrors) :: rateKeys) [.ly] s t) ∧
      (slaveUp s = false → Runs i s fun t => t = s)) ∧
    (slaveUp s = true → cmdIntact s (lyBytes (c :: rest)) 0x12 8 = true →
      Runs (.echo a h (x ++ y) (k ++ z)) s fun t =>
        (lyField (lyBytes (c :: rest)) 0 8 = obj s Obj.DeviceIdentity → t.ly.reply = bytesOf 8 (2 ^ 64 - 1 - obj s Obj.DeviceIdentity)) ∧
        (lyField (lyBytes (c :: rest)) 0 8 ≠ obj s Obj.DeviceIdentity → t.ly.reply = s.ly.reply) ∧ Only rateKeys [.ly] s t) ∧
    (slaveUp s = true → cmdIntact s (lyBytes (c :: rest)) 0x13 9 = true → lyField (lyBytes (c :: rest)) 0 8 = obj s Obj.DeviceIdentity →
      Runs (.assign a h x y (k ++ z)) s fun t =>
        obj t Obj.LysefShortAddress = lyField (lyBytes (c :: rest)) 8 1 ∧ slaveAddress t = lyField (lyBytes (c :: rest)) 8 1 ∧ obj t Obj.LysefNew = 0 ∧
        t.ly.reply = bytesOf 1 (lyField (lyBytes (c :: rest)) 8 1) ++ bytesOf 1 (255 - lyField (lyBytes (c :: rest)) 8 1) ∧
        (eventRoom s = true → queued t 0x5001 (t48 s) [] = true) ∧
        Only ([(Obj.LysefShortAddress, Obj.LysefShortAddress), (Obj.LysefNew, Obj.LysefNew), (Obj.EventsLost, Obj.EventsLost)] ++ rateKeys)
          [.ly, .flash, .tally, .clk] s t) ∧
    (slaveUp s = true → cmdIntact s (lyBytes (c :: rest)) 0x13 9 = true → lyField (lyBytes (c :: rest)) 0 8 ≠ obj s Obj.DeviceIdentity →
      Runs (.assign a h x y (k ++ z)) s fun t => t.ly.reply = s.ly.reply ∧ slaveAddress t = slaveAddress s ∧ Only rateKeys [.ly] s t) ∧
    (slaveUp s = true → cmdIntact s (lyBytes (c :: rest)) 0x20 8 = true → coreUp s = true → getBit s Obj.TimeSourceEnable 2 = true →
      Runs (.time a h (x ++ y) (k ++ z)) s fun t =>
        obj t Obj.ReferenceSource = 3 ∧ mfind t.rtc.refTicks 3 = some (ticks s) ∧ t.rtc.bin = s.rtc.bin ∧
        (s.rtc.valid = true →
          ((lyField (lyBytes (c :: rest)) 0 8 : Int) - ((s.rtc.bin - 5 * 2 ^ 32) / 2 ^ 32 : Nat)).natAbs * 1000 ≤ obj s Obj.SlewLimit * 65536 →
          t.rtc.slew = ((lyField (lyBytes (c :: rest)) 0 8 : Int) - ((s.rtc.bin - 5 * 2 ^ 32) / 2 ^ 32 : Nat)) * 2 ^ 32)) ∧
    (slaveUp s = true → cmdIntact s (lyBytes (c :: rest)) 0x20 8 = true → getBit s Obj.TimeSourceEnable 2 = false →
      Runs (.time a h (x ++ y) (k ++ z)) s fun t => Only rateKeys [.ly] s t) ∧
    (s.pw.bus = true → s.lm.running = false →
      Runs .lineBreak s fun t =>
        t.ly.tracker = false ∧ t.ly.steady = true ∧ slaveUp t = false ∧ seqOf t .lysef = none ∧ (session t .lysef).level = 0 ∧
        (captured s .lysef = [] → waitingWrites s .lysef = [] → obj t Obj.LysefBreakCount = next32 (obj s Obj.LysefBreakCount))) ∧
    (slaveUp s = true →
      Runs (.lysefIdle partialFrame) s fun t =>
        t.ly.answered = [] ∧ t.ly.reply = [] ∧
        (partialFrame = true → obj t Obj.LysefFrameErrors = next32 (obj s Obj.LysefFrameErrors)) ∧ (partialFrame = false → Only [] [.ly] s t)) ∧
    (slaveUp s = true → lyHeader s (lyBytes (c :: rest)) 0x01 true = .wrong →
      Runs (.lysefAccess a h x (y ++ k ++ z) late free) s fun t =>
        obj t Obj.LysefFrameErrors = next32 (obj s Obj.LysefFrameErrors) ∧
        Only ((Obj.LysefFrameErrors, Obj.LysefFrameErrors) :: rateKeys) [.ly] s t) ∧
    (slaveUp s = true → lyHeader s (lyBytes (c :: rest)) 0x01 true = .silent →
      Runs (.lysefAccess a h x (y ++ k ++ z) late free) s fun t => Only rateKeys [.ly] s t) ∧
    (lyHeader s (lyBytes (c :: rest)) 0x01 true = .mine → ((lyBytes (c :: rest)).drop 3).length = 8 + f.len.toNat → f.len.toNat ≤ 240 →
      f = { frameOf ((lyBytes (c :: rest)).drop 3) with bufferFree := free } → opOf ((((lyBytes (c :: rest)).drop 3).headD 0).toNat / 16) = some .read →
      frameReady s .lysef .read f = true → lookup s.code f.index.toNat f.sub.toNat = .obj d → d.kind = .rw ∨ d.kind = .rwc →
      Runs (.lysefAccess a h x (y ++ k ++ z) false free) s fun t =>
        mfind t.ports.out 2 = some ⟨stOk, f.tag.toNat, f.index.toNat, f.sub.toNat, (bytesOf d.size (obj s (frameKey f))).take 240⟩ ∧
        Only rateKeys [.ly, .ports, .front, .clk] s t) ∧
    (∀ (addr cmd hck : Byte) (b : List Byte) (own : Bool),
      (hck ≠ addr ^^^ cmd ^^^ 0xA5 → lyHeader s (addr :: cmd :: hck :: b) cmd.toNat own = .wrong) ∧
      (addr ≠ 0 → addr.toNat ≠ slaveAddress s → lyHeader s (addr :: cmd :: (addr ^^^ cmd ^^^ 0xA5) :: b) cmd.toNat own = .silent) ∧
      lyHeader s (0 :: cmd :: (cmd ^^^ 0xA5) :: b) cmd.toNat true = .wrong ∧ lyHeader s (0 :: cmd :: (cmd ^^^ 0xA5) :: b) cmd.toNat false = .mine ∧
      (addr ≠ 0 → addr.toNat = slaveAddress s → lyHeader s (addr :: cmd :: (addr ^^^ cmd ^^^ 0xA5) :: b) cmd.toNat true = .mine))

/-- R506: a device that did not receive SEARCH_START intact, whose bus has not been valid since before the break, or whose `LysefNew` is clear in mode 0x01, takes no
part: it answers no cell of the frame. -/
def Obligations.LysefSearchParticipation : Prop :=
  ∀ (s : State) (c : LyCell) (rest a h x y k z : List LyCell), slaveUp s = true → a ++ h ++ x ++ y ++ k ++ z = c :: rest →
    (cmdIntact s (searchBytes (c :: rest)) 0x10 9 = false →
      Runs (.searchStart a h x y k z) s fun t =>
        t.ly.answered = s.ly.answered ∧ Only ((Obj.LysefFrameErrors, Obj.LysefFrameErrors) :: rateKeys) [.ly] s t) ∧
    (s.ly.steady = false →
      Runs (.searchStart a h x y k z) s fun t =>
        (t.ly.answered = s.ly.answered ∨ t.ly.answered.all (fun e => !e.1 && !e.2) = true) ∧
        Only ((Obj.LysefFrameErrors, Obj.LysefFrameErrors) :: rateKeys) [.ly] s t) ∧
    (lyField (searchBytes (c :: rest)) 0 1 = 1 → obj s Obj.LysefNew ≠ 1 →
      Runs (.searchStart a h x y k z) s fun t =>
        (t.ly.answered = s.ly.answered ∨ t.ly.answered.all (fun e => !e.1 && !e.2) = true) ∧
        Only ((Obj.LysefFrameErrors, Obj.LysefFrameErrors) :: rateKeys) [.ly] s t)

/-- R509: `LysefNew` is set each time the bus becomes valid at the device, also where the bus starts the part, and by a write of 0 to `LysefShortAddress`. -/
def Obligations.LysefNewIsSet : Prop :=
  ∀ (s : State) (r : Route) (field : Bool) (mv : Nat) (faults : FlashFaults),
    (s.pw.bus = false →
      Runs .busValid s fun t => obj t Obj.LysefNew = 1 ∧ t.pw.bus = true ∧ Only [(Obj.LysefNew, Obj.LysefNew)] [.pw, .ly, .ports] s t) ∧
    (s.pw.bus = false → s.pw.vbat = false → s.pw.mode = .off ∨ s.pw.mode = .backup ∨ s.pw.mode = .duskHold →
      Runs (.startFromBusOrField true field mv faults) s fun t => obj t Obj.LysefNew = 1 ∧ t.pw.bus = true) ∧
    (hostReady s r 3 = true →
      Runs (.lysefShortAddressWrite r 0) s fun t =>
        obj t Obj.LysefNew = 1 ∧ obj t Obj.LysefShortAddress = 0 ∧
        Only [(Obj.LysefShortAddress, Obj.LysefShortAddress), (Obj.LysefNew, Obj.LysefNew)] [.ly, .ports, .front, .clk, .flash, .radio] s t)

/-- R514 to R517: read cells are judged by their LSNS current against the baseline; a pass over the answers of one device alone finds its identity and ends the search; one that nobody answers is an empty branch. The echo
confirms the identity, and a matching assignment records it. The reading of 'most recent' is the model's (log entry 34). -/
def Obligations.LysefSearch : Prop :=
  ∀ (s : State) (newOnly : Bool) (salt path key found d n : Nat) (answers : List LsnsRead),
    (∀ x : LsnsRead, readsZero s x = true ↔ obj s Obj.LsnsThreshold * obj s Obj.LsnsGain < (x.level - x.base) * 1000) ∧
    (masterUp s = true → s.lm.identity = none → s.lm.search = some ⟨newOnly, salt, path, [], false, found⟩ → path < 2 ^ 64 → key < 2 ^ 64 →
      readPairs s answers = (List.range 64).map (fun i => (!bitOf key (63 - i), bitOf key (63 - i))) →
      Runs (.lysefSearchPass answers) s fun t =>
        t.lm.identity = some (Nat.xor key salt) ∧ t.lm.search = none ∧ obj t Obj.LysefSearchStatus = 2 ∧
        t.lm.frame = masterFrame 0 0x10 (bytesOf 1 (if newOnly then 1 else 0) ++ bytesOf 8 salt) true ∧
        (eventRoom s = true → queued t 0x5002 (t48 s) [found + 1] = true)) ∧
    (masterUp s = true → s.lm.identity = none → s.lm.search = some ⟨newOnly, salt, path, [], false, found⟩ →
      Runs (.lysefSearchPass []) s fun t =>
        t.lm.identity = none ∧ t.lm.search = none ∧ obj t Obj.LysefSearchStatus = 2 ∧
        obj t Obj.LysefBranchEmptyCount = next32 (obj s Obj.LysefBranchEmptyCount) ∧
        (eventRoom s = true → queued t 0x5003 (t48 s) [] = true ∧ queued t 0x5002 (t48 s) [found] = true)) ∧
    (masterUp s = true → s.lm.identity = some d → answers.length = 64 → 2 ^ 64 - 1 - bitsNat (readBits s answers) = d → d ≠ 0 →
      d ≠ 0xFFFFFFFFFFFFFFFF →
      Runs (.lysefMasterEcho answers) s fun t =>
        t.lm.matched = true ∧ t.lm.frame = masterFrame 0 0x12 (bytesOf 8 d) true ∧ Only [] [.lm] s t) ∧
    (masterUp s = true → s.lm.identity = some d → answers.length ≠ 64 ∨ 2 ^ 64 - 1 - bitsNat (readBits s answers) ≠ d →
      Runs (.lysefMasterEcho answers) s fun t =>
        t.lm.matched = false ∧ t.lm.identity = none ∧ obj t Obj.LysefBranchEmptyCount = next32 (obj s Obj.LysefBranchEmptyCount)) ∧
    (masterUp s = true → s.lm.identity = some d → s.lm.matched = true → entryHolding s d = none → freeEntry s = some n →
      answers.length = 16 → bitsNat (readBits s answers) = n * 256 + (255 - n) →
      Runs (.lysefMasterAssign answers) s fun t =>
        mfind t.radio.stems n = some ⟨d, 0, true, 1, uptime s, [], none⟩ ∧ t.lm.identity = none ∧
        t.lm.frame = masterFrame 0 0x13 (bytesOf 8 d ++ bytesOf 1 n) true ∧ (eventRoom s = true → queued t 0x5004 (t48 s) [] = true) ∧
        Only [(Obj.LysefSegmentCount, Obj.LysefSegmentCount), (Obj.EventsLost, Obj.EventsLost)] [.lm, .radio, .tally, .clk] s t)

/-- R518, R510, R525, R528, R529: what the master does by itself. -/
def Obligations.LysefMasterEvents : Prop :=
  ∀ (s : State) (addr : Byte) (b : Bool) (base : Nat),
    (masterUp s = true → obj s Obj.LysefNewPoll ≠ 0 → s.lm.openSlaves = [] ∨ obj s Obj.LysefBreakDefer = 0 →
      Runs .lysefNewPoll s fun t =>
        t.lm.search.map (·.newOnly) = some true ∧ obj t Obj.LysefSearchStatus = 1 ∧
        Only [(Obj.LysefSearchStatus, Obj.LysefSearchStatus)] [.lm, .free] s t) ∧
    (masterUp s = true → obj s Obj.LysefNewPoll ≠ 0 → s.lm.openSlaves ≠ [] → obj s Obj.LysefBreakDefer ≠ 0 →
      Runs .lysefNewPoll s fun t => t.lm.deferred = some true ∧ t.lm.search = s.lm.search ∧ Only [] [.lm] s t) ∧
    (masterUp s = true → obj s Obj.LysefTimeInterval ≠ 0 →
      Runs .lysefTimeBroadcast s fun t => t.lm.frame = masterFrame 0 0x20 (bytesOf 8 (t48 s)) true ∧ Only [] [.lm] s t) ∧
    (masterUp s = true → s.lm.deferred = some b →
      Runs .lysefBreakDeferExpiry s fun t =>
        t.lm.search.map (·.newOnly) = some b ∧ t.lm.deferred = none ∧ t.lm.openSlaves = [] ∧
        Only [(Obj.LysefSearchStatus, Obj.LysefSearchStatus)] [.lm, .free] s t) ∧
    (masterUp s = true → obj s Obj.LysefLostLimit ≤ mget s.lm.noAnswer addr.toNat 0 → s.lm.lost.contains addr.toNat = false →
      Runs (.lysefDeviceLost addr) s fun t =>
        t.lm.lost.contains addr.toNat = true ∧ (eventRoom s = true → queued t 0x5005 (t48 s) [addr.toNat] = true) ∧
        Only [(Obj.EventsLost, Obj.EventsLost)] [.lm, .tally, .clk] s t) ∧
    (masterUp s = true → 404 * obj s Obj.LsnsGain < base ∨ s.pw.bus = false →
      Runs (.lysefBusFault base) s fun t =>
        t.lm.fault = true ∧ masterUp t = false ∧ t.lm.search = none ∧ (s.lm.search.isSome = true → obj t Obj.LysefSearchStatus = 3) ∧
        (eventRoom s = true → queued t 0x5006 (t48 s) [] = true) ∧
        Only [(Obj.LysefSearchStatus, Obj.LysefSearchStatus), (Obj.EventsLost, Obj.EventsLost)] [.lm, .tally, .clk] s t) ∧
    (s.lm.running = true → s.lm.fault = true →
      Runs .lysefFaultRetry s fun t => t.lm.fault = false ∧ t.lm.openSlaves = [] ∧ Only [] [.lm] s t)

/-! ### SPI tail and vicinity port -/

/-- R537, R542 to R549: the SPI tail shows the response that became ready first; the vicinity port answers the ISO/IEC 15693 requests of its state. The states
of ISO/IEC 15693 are presumed (log entry 47). -/
def Obligations.TailAndVicinity : Prop :=
  ∀ (s : State) (slot maskLen : Nat) (x : Resp) (mode16 option late : Bool) (mask uid : BitVec 64) (m : VicMode) (mfr : Byte) (form : IsoForm) (op : Op) (f : Frame)
      (d : ObjDef),
    (portUp s .spi = true → firstHeld s = some (slot, x) →
      Runs .spiTailFrame s fun t => t.ports.spiTail = respBytes x ∧ t.ports.spiSdo = bitsOfBytes (respBytes x) ∧ mfind t.ports.tags slot = none ∧ Only [] [.ports] s t) ∧
    (portUp s .spi = true → firstHeld s = none →
      Runs .spiTailFrame s fun t => t.ports.spiTail = [0xFF] ∧ t.ports.tags = s.ports.tags ∧ Only [] [.ports] s t) ∧
    (vicUp s = true → s.ports.vic ≠ .quiet → maskLen ≤ 60 → vicinityUid s % 2 ^ maskLen = mask.toNat % 2 ^ maskLen →
      Runs (.inventory mode16 none maskLen mask) s fun t =>
        t.ports.vicOut = [0x00, 0x00] ++ uidOnAir s ∧
        t.ports.vicSlot = (if mode16 then vicinityUid s / 2 ^ maskLen % 16 else 0) ∧ t.ports.vic = s.ports.vic ∧ Only [] [.ports] s t) ∧
    (vicUp s = true → s.ports.vic = .quiet →
      Runs (.inventory mode16 none maskLen mask) s fun t => t.ports.vicOut = [] ∧ t.ports.vic = .quiet ∧ Only [] [.ports] s t) ∧
    (vicUp s = true → uid.toNat = vicinityUid s →
      Runs (.stayQuiet uid) s fun t => t.ports.vic = .quiet ∧ t.ports.vicOut = [] ∧ Only [] [.ports] s t) ∧
    (vicUp s = true → uid.toNat = vicinityUid s →
      Runs (.select uid) s fun t => t.ports.vic = .selected ∧ t.ports.vicOut = [0x00] ∧ Only [] [.ports] s t) ∧
    (vicUp s = true → uid.toNat ≠ vicinityUid s → s.ports.vic = .selected →
      Runs (.select uid) s fun t => t.ports.vic = .ready ∧ t.ports.vicOut = [] ∧ Only [] [.ports] s t) ∧
    (vicUp s = true → vicAddressed s m = true →
      Runs (.resetToReady m) s fun t => t.ports.vic = .ready ∧ t.ports.vicOut = [0x00] ∧ Only [] [.ports] s t) ∧
    (vicUp s = true → vicAddressed s m = true →
      Runs (.getSystemInformation m) s fun t =>
        t.ports.vicOut = [0x00, 0x08] ++ uidOnAir s ++ bytesOf 1 (obj s Obj.SiliconRevision) ∧ t.ports.vic = s.ports.vic ∧ Only [] [.ports] s t) ∧
    (vicUp s = true → form = .intact ∨ form = .short → m = .nonAddressed ∨ vicAddressed s m = false ∨ mfr.toNat ≠ obj s Obj.IcManufacturerCode →
      Runs (.vicinityAccess m option mfr op f late form) s fun t => t.ports.vicOut = [] ∧ Only [] [.ports] s t) ∧
    (vicUp s = true →
      Runs (.vicinityAccess m option mfr op f late .badCrc) s fun t =>
        t.ports.vicOut = [] ∧ obj t Obj.VicinityFrameErrors = next32 (obj s Obj.VicinityFrameErrors) ∧
        Only [(Obj.VicinityFrameErrors, Obj.VicinityFrameErrors)] [.ports] s t) ∧
    (vicUp s = true → m ≠ .nonAddressed → vicAddressed s m = true →
      Runs (.vicinityAccess m option mfr op f late .unsupported) s fun t =>
        t.ports.vicOut = [0x01, 0x01] ∧ Only [(Obj.VicinityFrameErrors, Obj.VicinityFrameErrors)] [.ports] s t) ∧
    (vicUp s = true → m = .nonAddressed ∨ vicAddressed s m = false →
      Runs (.vicinityAccess m option mfr op f late .unsupported) s fun t => t.ports.vicOut = [] ∧ Only [] [.ports] s t) ∧
    (vicUp s = true → m ≠ .nonAddressed → vicAddressed s m = true → mfr.toNat = obj s Obj.IcManufacturerCode →
      Runs (.vicinityAccess m option mfr op f late .short) s fun t =>
        t.ports.vicOut = [0x01, 0x02] ∧ Only [(Obj.VicinityFrameErrors, Obj.VicinityFrameErrors)] [.ports] s t) ∧
    (vicUp s = true → m ≠ .nonAddressed → vicAddressed s m = true → mfr.toNat = obj s Obj.IcManufacturerCode →
      Runs (.vicinityAccess m true mfr op f late .intact) s fun t =>
        t.ports.vicOut = [0x01, 0x03] ∧ Only [(Obj.VicinityFrameErrors, Obj.VicinityFrameErrors)] [.ports] s t) ∧
    (m ≠ .nonAddressed → vicAddressed s m = true → mfr.toNat = obj s Obj.IcManufacturerCode → frameReady s .vicinity .read f = true →
      lookup s.code f.index.toNat f.sub.toNat = .obj d → d.kind = .rw ∨ d.kind = .rwc →
      Runs (.vicinityAccess m false mfr .read f false .intact) s fun t =>
        t.ports.vicOut = [0x00] ++ respBytes ⟨stOk, f.tag.toNat, f.index.toNat, f.sub.toNat, (bytesOf d.size (obj s (frameKey f))).take 240⟩ ∧
        Only [] [.ports, .front, .clk] s t)

/-- R543, R545: the UID is 0xE0, `IcManufacturerCode`, then bits [47:0] of `DeviceIdentity`; `VicinityUid` reads it most significant byte first, the air carries it
least significant byte first. Get System Information returns, behind the response flags, the information flags 0x08, the UID and `SiliconRevision`. -/
def Obligations.VicinityUidForm : Prop :=
  ∀ (s : State) (r : Route) (f : Frame) (m : VicMode), obj s Obj.IcManufacturerCode < 256 →
    (frameReady s r .read f = true → frameKey f = Obj.VicinityUid →
      Runs (.read r f false) s fun t =>
        mfind t.ports.out r.num = some ⟨stOk, f.tag.toNat, f.index.toNat, f.sub.toNat,
          [0xE0] ++ bytesOf 1 (obj s Obj.IcManufacturerCode) ++ bytesOf 6 (obj s Obj.DeviceIdentity)⟩ ∧
        Only [] [.ports, .front, .clk, .radio] s t) ∧
    (vicUp s = true → vicAddressed s m = true →
      Runs (.getSystemInformation m) s fun t =>
        t.ports.vicOut.drop 1 = [0x08] ++ (bytesOf 6 (obj s Obj.DeviceIdentity)).reverse ++ bytesOf 1 (obj s Obj.IcManufacturerCode) ++ [0xE0]
          ++ bytesOf 1 (obj s Obj.SiliconRevision) ∧
        Only [] [.ports] s t)

/-! ### Radio -/

/-- R571, R572: what CCM seals under a 13-byte nonce it opens again, whatever the key, the associated data and the message. -/
def Obligations.SealedFramesOpen : Prop :=
  ∀ (key : Nat) (nonce aad msg : List Nat), nonce.length = 13 →
    Aes.ccmOpen key nonce aad (Aes.ccmSeal key nonce aad msg).1 (Aes.ccmSeal key nonce aad msg).2 = some msg

/-- R576 to R580, R595, R564, R582: connection events: a stem opens its window on the event's channel, a crown with nothing queued sends POLL; each event
moves the counter on; the last bit sent releases RFSW; S intervals without a frame lose the link. The control byte of POLL is the model's choice (log entry
27). -/
def Obligations.ConnectionEvents : Prop :=
  ∀ (s : State) (p : Nat) (n : Nbr) (c : Conn) (a : OnAir) (rest : List OnAir),
    (isFull s = true → isCrown s = false → nbr s p = some n → n.conn = some c → radioUp s = true → radioBusy s = false →
      Runs (.connectionEvent p) s fun t =>
        t.radio.event = some p ∧ t.radio.evChan = c.channel c.event ∧ t.radio.openNs = windowNs s n c ∧
        (nbr t p).bind (·.conn) = some c.advance ∧ Only [] [.radio, .clk] s t) ∧
    (isFull s = true → nbr s p = some n → n.conn = some c → radioBusy s = true →
      Runs (.connectionEvent p) s fun t => (nbr t p).bind (·.conn) = some c.advance ∧ t.radio.event = s.radio.event ∧ Only [] [.radio] s t) ∧
    (isFull s = true → isCrown s = true → nbr s p = some n → n.conn = some c → mayTransmit s = true → radioBusy s = false → n.out = none →
      s.radio.txq = [] → obj s Obj.GroveTimeInterval = 0 → n.tx ≠ 0xFFFFFFFF →
      gate s 0 (channelSpan s (c.channel c.event)) (c.channel c.event) (airMs s (onAirLength (macLength n []))) n.power false = .send →
      Runs (.connectionEvent p) s fun t =>
        t.radio.event = some p ∧ t.radio.await = true ∧ t.radio.air.map (fun x => (x.control, x.peer, x.channel)) = [(pollControl, p, c.channel c.event)] ∧
        (nbr t p).map (·.tx) = some (n.tx + 1) ∧ t.pads.rfsw = true ∧
        obj t Obj.TxAirtimeTotal = (obj s Obj.TxAirtimeTotal + airMs s (onAirLength (macLength n []))) % 2 ^ 64) ∧
    (s.radio.event = some p → s.radio.await = true → nbr s p = some n →
      Runs (.connectionEventEnd p) s fun t =>
        t.radio.event = none ∧ t.radio.await = false ∧
        (nbr t p).map (·.power) = some (powerIn s ((chargedEntry s (channelSpan s s.radio.evChan)).getD 0) (n.power + 6))) ∧
    (s.radio.event = some p → s.radio.await = false → s.radio.txq = [] →
      Runs (.connectionEventEnd p) s fun t => t.radio.event = none ∧ t.radio.nbrs = s.radio.nbrs ∧ Only [] [.radio] s t) ∧
    (s.radio.air = a :: rest → Runs .endOfTransmit s fun t => t.radio.air.take rest.length = rest) ∧
    (s.radio.air = a :: rest → s.radio.txq = [] → s.radio.heldResp = [] →
      Runs .endOfTransmit s fun t =>
        t.radio.air = rest ∧ (rest = [] → t.pads.rfsw = false ∧ t.pads.paen = false) ∧ Only [] [.radio, .pads] s t) ∧
    (isFull s = true → linkExpired s p = true →
      Runs (.linkLost p) s fun t =>
        connected t p = false ∧ t.radio.event ≠ some p ∧ (isStem s = true → obj t Obj.GroveLinkState = 0) ∧
        (isStem s = false → eventRoom s = true → queued t 0x5201 (t48 s) [p, 1] = true))

/-- R567, R568, R572 to R575, R583, R630 to R632: a frame whose CRC or MIC fails is counted and changes nothing else; an accepted one moves the receive
counter and its contents go where their subtype says. A snapshot keeps 82 bytes of a telegram (log entry 48). -/
def Obligations.ReceivedFrames : Prop :=
  ∀ (s : State) (p : Nat) (n : Nbr) (f : AirFrame) (pay b : List Byte) (e : Stem) (fr : Frame) (d : ObjDef),
    (listening s = true → airIntact f = false →
      Runs (.poll f) s fun t => obj t (Obj.RxDropCount 2) = next32 (obj s (Obj.RxDropCount 2)) ∧ Only [(Obj.RxDropCount 2, Obj.RxDropCount 2)] [] s t) ∧
    (listening s = true → airIntact f = true → typeOf f = 4 → sourceOf s f = some p → s.radio.event = some p → nbr s p = some n →
      openAir n.key n.identity f = none →
      Runs (.dataMailbox f) s fun t =>
        obj t (Obj.RxDropCount 3) = next32 (obj s (Obj.RxDropCount 3)) ∧ t.radio.nbrs = s.radio.nbrs ∧ t.radio.inbox = s.radio.inbox ∧
        Only [(Obj.RxDropCount 3, Obj.RxDropCount 3), (Obj.EventsLost, Obj.EventsLost)] [.tally, .radio, .clk] s t) ∧
    (airReady s p n f pay = true → typeOf f = 6 →
      Runs (.poll f) s fun t => (nbr t p).map (fun x => (x.rx, x.heard)) = some (f.counter.toNat, ticks s) ∧ t.radio.inbox = s.radio.inbox) ∧
    (airReady s p n f pay = true → typeOf f = 5 →
      Runs (.ack f) s fun t => (nbr t p).map (fun x => (x.rx, x.heard)) = some (f.counter.toNat, ticks s) ∧ t.radio.inbox = s.radio.inbox) ∧
    (airReady s p n f pay = true → typeOf f = 4 → pay = 0x01 :: b → 8 ≤ b.length → opOf ((b.headD 0).toNat / 16) = some .read → fr = frameOf b →
      frameReady s (.grove p) .read fr = true → lookup s.code fr.index.toNat fr.sub.toNat = .obj d → d.kind = .rw ∨ d.kind = .rwc →
      Runs (.dataAccessRequest f) s fun t =>
        (nbr t p).map (·.rx) = some f.counter.toNat ∧
        mfind t.ports.out (4 + p) = some ⟨stOk, fr.tag.toNat, fr.index.toNat, fr.sub.toNat, (bytesOf d.size (obj s (frameKey fr))).take 240⟩) ∧
    (airReady s p n f pay = true → typeOf f = 4 → pay = 0x02 :: b → s.radio.send = some p →
      Runs (.dataAccessResponse f) s fun t =>
        t.radio.send = none ∧ t.radio.result = padTo 250 0 (bytesOf 1 0 ++ bytesOf 1 p ++ b.take 248) ∧ t.radio.inbox = s.radio.inbox) ∧
    (airReady s p n f pay = true → typeOf f = 4 → pay = 0x03 :: b → isCrown s = true → mfind s.radio.stems p = some e → e.snapshot = [] → 18 ≤ b.length →
      Runs (.dataTelegram f) s fun t => (mfind t.radio.stems p).map (·.snapshot) = some (bytesOf 8 (t48 s) ++ b.take 82)) ∧
    (airReady s p n f pay = true → typeOf f = 4 → pay = 0x04 :: b → isCrown s = false → getBit s Obj.TimeSourceEnable 1 = true →
      Runs (.dataGroveTime f) s fun t =>
        obj t Obj.ReferenceSource = 2 ∧ mfind t.rtc.refTicks 2 = some (ticks s) ∧
        (s.rtc.valid = true → ((natOf (b.take 8) : Int) - (s.rtc.bin / 2 ^ 32 : Nat)).natAbs * 1000 ≤ obj s Obj.SlewLimit * 65536 →
          t.rtc.slew = ((natOf (b.take 8) : Int) - (s.rtc.bin / 2 ^ 32 : Nat)) * 2 ^ 32)) ∧
    (airReady s p n f pay = true → typeOf f = 4 → pay = 0x05 :: b →
      Runs (.dataMailbox f) s fun t =>
        t.radio.inbox = s.radio.inbox ++ [bytesOf 1 p ++ bytesOf 1 5 ++ bytesOf 1 (min 237 b.length) ++ b.take 237] ∧ getBit t Obj.IrqStatus 6 = true)

/-- R584 to R589, R626: glances, wakes and trains, and the installer's frame that ends transport mode. -/
def Obligations.WakingUp : Prop :=
  ∀ (s : State) (rssi : Int) (grove : BitVec 16) (target : BitVec 32) (countdown : BitVec 16) (p : Nat) (n : Nbr) (e : TxEntry) (identity mac : BitVec 64)
      (counter : BitVec 32),
    (radioUp s = true → radioIdle s = true → anchorWithin s 1 = false → s.radio.glancing = false →
      Runs (.glance rssi) s fun t =>
        t.radio.glancing = decide (objI 1 s Obj.GlanceThreshold ≤ rssi) ∧ (s.radio.txq = [] → Only [] [.radio, .clk] s t)) ∧
    (anchorWithin s 1 = true → Runs (.glance rssi) s fun t => t = s) ∧
    (radioUp s = true → radioIdle s = true → anchorWithin s 1 = false → s.radio.glancing = true →
      Runs (.glance rssi) s fun t => obj t Obj.FalseWakeCount = next32 (obj s Obj.FalseWakeCount)) ∧
    (s.pw.mode ≠ .transport → radioUp s = true → s.radio.glancing = true → ownGrove s ≠ 0xFFFF → grove.toNat = ownGrove s → target.toNat = ownShort s →
      Runs (.wake grove target countdown) s fun t => t.radio.glancing = false ∧ t.radio.wakeWait = true ∧ Only [] [.radio] s t) ∧
    (s.pw.mode = .transport → s.radio.window = true → installAllowed s = true → grove = 0xFFFF → target.toNat = obj s Obj.DeviceIdentity % 2 ^ 32 →
      Runs (.wake grove target countdown) s fun t => t.radio.window = false ∧ t.radio.installReady = true ∧ Only [] [.radio] s t) ∧
    (radioUp s = true → s.radio.wakeWait = true → s.radio.air = [] → s.radio.event = none →
      Runs .dawnWakeReceive s fun t =>
        t.radio.wakeWait = false ∧ t.radio.event = some 0 ∧ t.radio.evChan = glanceChannel s ∧ Only [] [.radio, .clk] s t) ∧
    (radioIdle s = true → s.radio.txq.find? (fun x => x.train && decide (x.peer = p)) = some e → radioWaits s e = false → e.beacon = false →
      nbr s p = some n → n.tx ≠ 0xFFFFFFFF → freeGate s e (freeChannel s e) false = .send →
      Runs (.dawnTrain p) s fun t =>
        t.radio.event = some p ∧ t.radio.air.map (fun x => (x.control, x.peer, x.train)) = [(e.control, p, trainLength s n.glance)] ∧
        (nbr t p).map (·.tx) = some (n.tx + 1)) ∧
    (s.pw.mode = .transport → s.pw.transportSet = true → s.radio.installReady = true → identity.toNat = obj s Obj.DeviceIdentity →
      obj s Obj.InstallCounter < counter.toNat →
      mac.toNat = installMac s identity.toNat counter.toNat →
      Runs (.install identity counter mac) s fun t =>
        t.pw.mode = .full ∧ t.pw.transportSet = false ∧ obj t Obj.InstallCounter = counter.toNat ∧ t.radio.installReady = false) ∧
    (s.pw.mode = .transport → s.radio.installReady = true → counter.toNat ≤ obj s Obj.InstallCounter →
      Runs (.install identity counter mac) s fun t => t.pw.mode = .transport ∧ t.radio.installReady = false ∧ Only [] [.radio] s t)

/-- R570, R591, R594, R597, R602, R605, R613: telegrams queued, frames listened for, aged or held, the transmit bucket, a PLL that does not lock. A telegram's
own acts are a stem's alone (log entry 11); EN 13757's own figures are free (log entry 28). -/
def Obligations.TransmitQueue : Prop :=
  ∀ (s : State) (rssi : Int) (id chan tries i : Nat) (p : Nat) (e : TxEntry) (fr : Frame) (d : ObjDef),
    (isFull s = true → isStem s = true → obj s Obj.TelegramInterval ≠ 0 → s.radio.txq.length < 8 →
      Runs .periodicTelegram s fun t =>
        t.radio.txq = s.radio.txq ++ [⟨s.radio.nextId, 3, 0, dataControl, telegramBytes s, ticks s, none, false⟩] ∧ Only [] [.radio, .clk] s t) ∧
    (isFull s = true → obj s Obj.CompatMode ≠ 0 →
      Runs .compatTelegram s fun t =>
        obj t Obj.CompatAccessNumber = (obj s Obj.CompatAccessNumber + 1) % 256 ∧
        (s.radio.txq.length < 8 → mayTransmit s = false →
          t.radio.txq.getLast?.map (fun x => (x.cls, x.peer, x.control)) = some (3, 256, 0x44))) ∧
    (listening s = true → frameReady s (.grove 256) .read fr = true → lookup s.code fr.index.toNat fr.sub.toNat = .obj d → d.kind = .rw ∨ d.kind = .rwc →
      Runs (.compatSndUd .read fr) s fun t =>
        t.radio.compatWindow = false ∧
        mfind t.ports.out 260 = some ⟨stOk, fr.tag.toNat, fr.index.toNat, fr.sub.toNat, (bytesOf d.size (obj s (frameKey fr))).take 240⟩) ∧
    (coreUp s = true → s.radio.heldResp = [] →
      Runs .frameAged s fun t => t.radio.txq.all (fun x => !aged s x) = true ∧ t.radio.txq.all (fun x => s.radio.txq.contains x) = true) ∧
    (s.radio.lbt = some ⟨some p, id, chan, tries, false⟩ → objI 1 s Obj.LbtThreshold ≤ rssi →
      Runs (.lbtListenEnd rssi) s fun t =>
        t.radio.event = none ∧ (s.radio.txq = [] → t.radio.lbt = none ∧ t.radio.air = s.radio.air ∧ Only [] [.radio] s t)) ∧
    (s.radio.lbt = some ⟨none, id, chan, 2, false⟩ → s.radio.txq.find? (fun x => x.id = id) = some e → objI 1 s Obj.LbtThreshold ≤ rssi →
      Runs (.lbtListenEnd rssi) s fun t =>
        t.radio.lbt = some ⟨none, id, chan, 2, true⟩ ∧ t.radio.txq = s.radio.txq ∧ Only [] [.radio] s t) ∧
    (s.radio.lbt = some ⟨none, id, chan, tries, false⟩ → s.radio.txq.find? (fun x => x.id = id) = some e → rssi < objI 1 s Obj.LbtThreshold →
      radioWaits { s with radio := { s.radio with lbt := none } } e = false → (e.beacon && anchorWithin s (freeMs s e)) = false → e.train = false →
      freeGate s e chan true = .send →
      Runs (.lbtListenEnd rssi) s fun t => t.radio.air.any (fun x => decide (x.entry = some id)) = true ∧ s.radio.air.length + 1 ≤ t.radio.air.length) ∧
    (s.radio.lbt = some ⟨none, id, chan, tries, true⟩ → s.radio.txq.find? (fun x => x.id = id) = some e →
      radioWaits { s with radio := { s.radio with lbt := none } } e = false → (e.beacon && anchorWithin s (freeMs s e)) = false →
      freeGate s e (freeChannel s e) false = .listen →
      Runs .lbtBackoffEnd s fun t => t.radio.lbt = some ⟨none, e.id, freeChannel s e, 0, false⟩ ∧ Only [] [.radio] s t) ∧
    (radioUp s = true → s.radio.pllFails < 2 →
      Runs .pllLockFail s fun t =>
        t.radio.pllFails = s.radio.pllFails + 1 ∧ t.radio.air = [] ∧ t.radio.event = none ∧ t.pads.rfsw = false ∧
        (∀ a, s.radio.air = [a] → obj t Obj.TxAirtimeTotal = (obj s Obj.TxAirtimeTotal + 2 ^ 64 - a.airtime) % 2 ^ 64) ∧
        Only [(Obj.TxAirtimeTotal, Obj.TxAirtimeTotal)] [.radio, .pads] s t ∧ (s.radio.air = [] → Only [] [.radio, .pads] s t)) ∧
    (radioUp s = true → 2 ≤ s.radio.pllFails →
      Runs .pllLockFail s fun t =>
        getBit t Obj.RadioStatus 4 = true ∧ radioUp t = false ∧ t.radio.pllFails = 0 ∧ (eventRoom s = true → queued t 0x5208 (t48 s) [] = true)) ∧
    (getBit s Obj.RadioStatus 4 = true → Runs .pllRestEnd s fun t => getBit t Obj.RadioStatus 4 = false) ∧
    (coreUp s = true →
      Runs .bucketChange s fun t =>
        t.radio.bucket = (s.radio.bucket + 1) % 60 ∧
        (s.radio.txq = [] → 1 ≤ i → i ≤ 8 → rising s.radio.buckets = true → mget t.radio.buckets (i * 64 + (s.radio.bucket + 1) % 60) 0 = 0))

/-! ### The grove -/

/-- R619 to R624, R634: beacons, joins and scans. The beacon of another crown is answered by the draw of 1 in 4. The draws are free values (log entry 5); the
counter of a beacon's seal and the joining fields rest on log entries 29 and 49. -/
def Obligations.Joining : Prop :=
  ∀ (s : State) (sender : BitVec 64) (f : AirFrame) (l : List Byte) (i chan : Nat) (e : Stem) (j : JoinSt),
    (radioUp s = true → isCrown s = true → obj s Obj.BeaconInterval ≠ 0 → radioIdle s = true → s.pw.low = false → s.radio.txq = [] → s.radio.lbt = none →
      anchorWithin s (airMs s (onAirLength (18 + (beaconPayload s).length))) = false →
      gate s 4 (channelSpan s (obj s (Obj.AdvChannel 1))) (obj s (Obj.AdvChannel 1)) (airMs s (onAirLength (18 + (beaconPayload s).length))) 127 false = .send →
      Runs .beaconInterval s fun t =>
        t.radio.air.head?.map (fun x => (x.control, x.channel)) = some (0x14, obj s (Obj.AdvChannel 1)) ∧ t.pads.rfsw = true) ∧
    (listening s = true → isStem s = true → s.radio.event = none → airIntact f = true → typeOf f = 1 →
      openAir (obj s Obj.GroveNetworkKey) sender.toNat f = some l → natOf (l.take 8) = sender.toNat → s.radio.scan = some chan →
      obj s Obj.GroveCrownIdentity ≠ sender.toNat → connected s 0 = false → groveMatches s f.groveId.toNat = true →
      ((l[16]?).getD 0).getLsbD 0 = true →
      Runs (.beacon sender f) s fun t =>
        (Config.freeValue s.free % 4 = 0 →
          t.radio.join = some ⟨sender.toNat, f.groveId.toNat, ((l[17]?).getD 0).toNat, Config.freeValue (s.free + 1) % 2 ^ 64⟩ ∧
          obj t Obj.GroveLinkState = 2) ∧
        (Config.freeValue s.free % 4 ≠ 0 → Only [] [.free] s t)) ∧
    (mayTransmit s = true → isCrown s = true → s.radio.beaconOpen = some chan → airIntact f = true → typeOf f = 2 → f.groveId.toNat = ownGrove s →
      openAir (obj s Obj.GroveNetworkKey) sender.toNat f = some l → l.length = 27 → natOf (l.take 8) = sender.toNat →
      entryHolding s sender.toNat = some i → mfind s.radio.stems i = some e →
      natOf ((l.drop 19).take 8)
        = Aes.cmac8 e.joinKey (pl 8 (obj s Obj.DeviceIdentity) ++ pl 8 sender.toNat ++ pl 8 (natOf ((l.drop 8).take 8)) ++ [1]) →
      slotUsable s i = true →
      Runs (.joinReq sender f) s fun t =>
        connected t i = true ∧ (mfind t.radio.stems i).map (fun x => (x.state, x.contact)) = some (1, uptime s) ∧ t.radio.beaconOpen = none ∧
        (nbr t i).map (fun x => (x.identity, x.tx, x.rx)) = some (e.identity, 1, 0) ∧ (eventRoom s = true → queued t 0x5301 (t48 s) [i] = true)) ∧
    (listening s = true → isStem s = true → s.radio.join = some j → airIntact f = true → typeOf f = 3 → f.groveId.toNat = j.grove →
      openAir (obj s Obj.GroveNetworkKey) j.crown f = some l → l.length = 47 → natOf (l.take 8) = obj s Obj.DeviceIdentity → (l[8]?).getD 0 = 0 →
      natOf (l.drop 39) = Aes.cmac8 (obj s Obj.GroveJoinKey) (nums (l.take 39) ++ pl 8 j.nonce ++ [2]) →
      Runs (.joinRsp f) s fun t =>
        connected t 0 = true ∧ obj t Obj.GroveCrownIdentity = j.crown ∧ obj t Obj.GroveShortId = ((l[9]?).getD 0).toNat ∧ t.radio.grove = j.grove ∧
        obj t Obj.GroveLinkState = 3 ∧ t.radio.join = none ∧ t.radio.scan = none) ∧
    (listening s = true → isStem s = true → s.radio.join = some j → airIntact f = true → typeOf f = 3 → f.groveId.toNat = j.grove →
      openAir (obj s Obj.GroveNetworkKey) j.crown f = some l → l.length = 47 → natOf (l.take 8) = obj s Obj.DeviceIdentity → (l[8]?).getD 0 ≠ 0 →
      Runs (.joinRsp f) s fun t =>
        t.radio.join = none ∧ connected t 0 = connected s 0 ∧ obj t Obj.GroveLinkState = 1 ∧
        (eventRoom s = true → queued t 0x5302 (t48 s) [((l[8]?).getD 0).toNat] = true)) ∧
    (radioUp s = true → isStem s = true → connected s 0 = false → radioIdle s = true → s.radio.scanAfter ≤ ticks s →
      (scanCharge s : Int) ≤ objI 4 s Obj.BudgetBucket →
      Runs .scanStart s fun t =>
        t.radio.scan = some (obj s (Obj.AdvChannel (s.radio.scanIx % 3 + 1))) ∧ obj t Obj.GroveLinkState = 1 ∧
        Only [(Obj.GroveLinkState, Obj.GroveLinkState)] [.radio, .clk] s t) ∧
    (s.radio.scan = some chan → isStem s = true →
      Runs .scanEnd s fun t =>
        t.radio.scan = none ∧ t.radio.join = none ∧ t.radio.backoff = min (2 * s.radio.backoff) (obj s Obj.RejoinBackoffMax) ∧
        t.radio.scanAfter = ticks s + min s.radio.backoff (obj s Obj.RejoinBackoffMax) * 32768 ∧
        obj t Obj.GroveLinkState = 0 ∧ Only [(Obj.GroveLinkState, Obj.GroveLinkState)] [.radio] s t)

/-- R610, R628, R631: a new map is in force once every stem has it, a radio commit applies between frames and ends connections it changes, a bridged
access without an answer times out. -/
def Obligations.GroveChanges : Prop :=
  ∀ (s : State) (map first k v p : Nat),
    (isCrown s = true → s.radio.mapChange = some (map, first) →
      s.radio.nbrs.all (fun e => match e.2.conn with
        | some c => c.update.isNone
        | none => true) = true →
      Runs .mapUpdated s fun t =>
        obj t Obj.ChannelMap = map ∧ obj t Obj.MapFirstChannel = first ∧ t.radio.mapChange = none ∧ t.radio.nbrs = s.radio.nbrs ∧
        (eventRoom s = true → queued t 0x5305 (t48 s) [] = true) ∧
        Only [(Obj.ChannelMap, Obj.ChannelMap), (Obj.MapFirstChannel, Obj.MapFirstChannel), (Obj.RadioStatus, Obj.RadioStatus),
          (Obj.EventsLost, Obj.EventsLost)] [.radio, .flash, .tally, .clk] s t) ∧
    (pendingOf s .radio = true → s.radio.air = [] → s.radio.event = none → rising s.pend = true →
      Runs .radioCommitApply s fun t =>
        pendingOf t .radio = false ∧ (blockOf k = some .radio → mfind s.pend k = some v → obj t k = v) ∧
        (mfind s.pend Obj.GroveId = some v → v ≠ obj s Obj.GroveId → connected t p = false)) ∧
    (s.radio.send = some p →
      Runs .groveSendTimeout s fun t =>
        t.radio.send = none ∧ t.radio.result = padTo 250 0 (bytesOf 1 2 ++ bytesOf 1 p) ∧ Only [] [.radio] s t)
end

