-- ==== Sys2Proof/Laws/Maps.lean ====
section
/-! SUPPORT. Sparse maps: reading after a write, and the rising order of the keys that every write keeps. -/

namespace Sys2Proof.Machine

variable {α : Type}

/-- Reading a key after setting one. -/
theorem mfind_mset (m : NMap α) (k j : Nat) (v : α) : mfind (mset m k v) j = if j = k then some v else mfind m j := by
  induction m with
  | nil => simp only [mset, mfind, eq_comm]
  | cons e t ih =>
    obtain ⟨i, w⟩ := e
    by_cases hk : k < i
    · simp only [mset, hk, ↓reduceIte, mfind, eq_comm]
    · by_cases hi : k = i
      · subst hi
        by_cases hj : j = k
        · simp [mset, mfind, hj]
        · simp [mset, mfind, hj, Ne.symm hj]
      · by_cases hj : j = k
        · subst hj
          simp [mset, mfind, hk, hi, Ne.symm hi, ih]
        · simp [mset, mfind, hk, hi, hj, ih]

/-- The key just set. -/
@[simp] theorem mfind_mset_self (m : NMap α) (k : Nat) (v : α) : mfind (mset m k v) k = some v := by simp [mfind_mset]

/-- Another key than the one set. -/
theorem mfind_mset_of_ne (m : NMap α) {k j : Nat} (v : α) (h : j ≠ k) : mfind (mset m k v) j = mfind m j := by simp [mfind_mset, h]

/-- Reading a key after removing one. -/
theorem mfind_mdel (m : NMap α) (k j : Nat) : mfind (mdel m k) j = if j = k then none else mfind m j := by
  induction m with
  | nil => simp [mdel, mfind]
  | cons e t ih =>
    obtain ⟨i, w⟩ := e
    by_cases hi : i = k
    · subst hi
      by_cases hj : j = i
      · subst hj
        simpa [mdel] using ih
      · simp [mdel, mfind, hj, Ne.symm hj, ih]
    · by_cases hj : j = k
      · subst hj
        simp [mdel, mfind, hi, ih]
      · simp [mdel, mfind, hi, hj, ih]

/-- The key just removed. -/
@[simp] theorem mfind_mdel_self (m : NMap α) (k : Nat) : mfind (mdel m k) k = none := by simp [mfind_mdel]

/-- Another key than the one removed. -/
theorem mfind_mdel_of_ne (m : NMap α) {k j : Nat} (h : j ≠ k) : mfind (mdel m k) j = mfind m j := by simp [mfind_mdel, h]

/-- Reading with a default after a write. -/
theorem mget_mset (m : NMap α) (k j : Nat) (v d : α) : mget (mset m k v) j d = if j = k then v else mget m j d := by
  unfold mget
  rw [mfind_mset]
  split <;> rfl

/-- What a set map lists: the new entry or an old one. -/
theorem mem_mset (m : NMap α) (k : Nat) (v : α) (e : Nat × α) (h : e ∈ mset m k v) : e = (k, v) ∨ e ∈ m := by
  induction m with
  | nil => simpa [mset] using h
  | cons a t ih =>
    obtain ⟨i, w⟩ := a
    simp only [mset] at h
    split at h
    · simpa using h
    · split at h
      · rcases List.mem_cons.mp h with h | h
        · exact .inl h
        · exact .inr (List.mem_cons_of_mem _ h)
      · rcases List.mem_cons.mp h with h | h
        · exact .inr (h ▸ List.mem_cons_self)
        · exact (ih h).imp_right (List.mem_cons_of_mem _)

/-- A map with a key removed lists only old entries, none under that key. -/
theorem mem_mdel (m : NMap α) (k : Nat) (e : Nat × α) (h : e ∈ mdel m k) : e ∈ m ∧ e.1 ≠ k := by
  induction m with
  | nil => simp [mdel] at h
  | cons a t ih =>
    obtain ⟨i, w⟩ := a
    simp only [mdel] at h
    split at h
    · exact ⟨List.mem_cons_of_mem _ (ih h).1, (ih h).2⟩
    · rcases List.mem_cons.mp h with h | h
      · subst h
        exact ⟨List.mem_cons_self, by assumption⟩
      · exact ⟨List.mem_cons_of_mem _ (ih h).1, (ih h).2⟩

/-- Strictly rising keys, as a statement about pairs. -/
theorem rising_iff (m : NMap α) : rising m = true ↔ m.Pairwise (fun a b => a.1 < b.1) := by
  induction m with
  | nil => simp [rising]
  | cons a t ih =>
    obtain ⟨i, w⟩ := a
    cases t with
    | nil => simp [rising]
    | cons b u =>
      obtain ⟨j, x⟩ := b
      rw [rising, Bool.and_eq_true, ih, decide_eq_true_eq, List.pairwise_cons (l := (j, x) :: u)]
      constructor
      · rintro ⟨h, hp⟩
        refine ⟨fun c hc => ?_, hp⟩
        rcases List.mem_cons.mp hc with rfl | hc
        · exact h
        · exact lt_trans h (List.rel_of_pairwise_cons hp hc)
      · rintro ⟨h, hp⟩
        exact ⟨h _ List.mem_cons_self, hp⟩

/-- Setting a key keeps the keys strictly rising. -/
theorem rising_mset (m : NMap α) (k : Nat) (v : α) (h : rising m = true) : rising (mset m k v) = true := by
  rw [rising_iff] at h ⊢
  induction m with
  | nil => simp [mset]
  | cons a t ih =>
    obtain ⟨i, w⟩ := a
    have hrest : ∀ c ∈ t, i < c.1 := fun _ hc => List.rel_of_pairwise_cons h hc
    simp only [mset]
    split
    · rename_i hk
      refine List.pairwise_cons.mpr ⟨fun c hc => ?_, h⟩
      rcases List.mem_cons.mp hc with rfl | hc
      · exact hk
      · exact lt_trans hk (hrest c hc)
    · split
      · rename_i hi
        subst hi
        exact List.pairwise_cons.mpr ⟨fun c hc => hrest c hc, h.of_cons⟩
      · refine List.pairwise_cons.mpr ⟨fun c hc => ?_, ih h.of_cons⟩
        rcases mem_mset t k v c hc with rfl | hc
        · simp only
          omega
        · exact hrest c hc

/-- Removing a key keeps the keys strictly rising. -/
theorem rising_mdel (m : NMap α) (k : Nat) (h : rising m = true) : rising (mdel m k) = true := by
  rw [rising_iff] at h ⊢
  induction m with
  | nil => simp [mdel]
  | cons a t ih =>
    obtain ⟨i, w⟩ := a
    simp only [mdel]
    split
    · exact ih h.of_cons
    · exact List.pairwise_cons.mpr ⟨fun c hc => List.rel_of_pairwise_cons h (mem_mdel t k c hc).1, ih h.of_cons⟩

end Sys2Proof.Machine
end

