-- ==== Sys2Proof/Laws/State.lean ====
section
/-! SUPPORT. The named updates of the state, field by field: what each sets, and that it leaves every other field alone. -/

namespace Sys2Proof.Machine

/-! ### `setObj` -/

@[simp] theorem setObj_code (s : State) (k v : Nat) : (setObj s k v).code = s.code := rfl
@[simp] theorem setObj_img (s : State) (k v : Nat) : (setObj s k v).img = putImage s.code s.img k v := rfl
@[simp] theorem setObj_shadow (s : State) (k v : Nat) : (setObj s k v).shadow = s.shadow := rfl
@[simp] theorem setObj_pend (s : State) (k v : Nat) : (setObj s k v).pend = s.pend := rfl
@[simp] theorem setObj_pendBlocks (s : State) (k v : Nat) : (setObj s k v).pendBlocks = s.pendBlocks := rfl
@[simp] theorem setObj_pw (s : State) (k v : Nat) : (setObj s k v).pw = s.pw := rfl
@[simp] theorem setObj_clk (s : State) (k v : Nat) : (setObj s k v).clk = s.clk := rfl
@[simp] theorem setObj_rtc (s : State) (k v : Nat) : (setObj s k v).rtc = s.rtc := rfl
@[simp] theorem setObj_ports (s : State) (k v : Nat) : (setObj s k v).ports = s.ports := rfl
@[simp] theorem setObj_pads (s : State) (k v : Nat) : (setObj s k v).pads = s.pads := rfl
@[simp] theorem setObj_front (s : State) (k v : Nat) : (setObj s k v).front = s.front := rfl
@[simp] theorem setObj_flash (s : State) (k v : Nat) : (setObj s k v).flash = s.flash := rfl
@[simp] theorem setObj_tally (s : State) (k v : Nat) : (setObj s k v).tally = s.tally := rfl
@[simp] theorem setObj_accs (s : State) (k v : Nat) : (setObj s k v).accs = s.accs := rfl
@[simp] theorem setObj_tdc (s : State) (k v : Nat) : (setObj s k v).tdc = s.tdc := rfl
@[simp] theorem setObj_acou (s : State) (k v : Nat) : (setObj s k v).acou = s.acou := rfl
@[simp] theorem setObj_flow (s : State) (k v : Nat) : (setObj s k v).flow = s.flow := rfl
@[simp] theorem setObj_temp (s : State) (k v : Nat) : (setObj s k v).temp = s.temp := rfl
@[simp] theorem setObj_elec (s : State) (k v : Nat) : (setObj s k v).elec = s.elec := rfl
@[simp] theorem setObj_pulse (s : State) (k v : Nat) : (setObj s k v).pulse = s.pulse := rfl
@[simp] theorem setObj_ly (s : State) (k v : Nat) : (setObj s k v).ly = s.ly := rfl
@[simp] theorem setObj_lm (s : State) (k v : Nat) : (setObj s k v).lm = s.lm := rfl
@[simp] theorem setObj_radio (s : State) (k v : Nat) : (setObj s k v).radio = s.radio := rfl
@[simp] theorem setObj_free (s : State) (k v : Nat) : (setObj s k v).free = s.free := rfl
@[simp] theorem setObj_pending (s : State) (k v : Nat) : (setObj s k v).pending = s.pending := rfl

/-! ### `setI` -/

@[simp] theorem setI_code (n : Nat) (s : State) (k : Nat) (v : Int) : (setI n s k v).code = s.code := rfl
@[simp] theorem setI_img (n : Nat) (s : State) (k : Nat) (v : Int) : (setI n s k v).img = putImage s.code s.img k (ofInt n v) := rfl
@[simp] theorem setI_shadow (n : Nat) (s : State) (k : Nat) (v : Int) : (setI n s k v).shadow = s.shadow := rfl
@[simp] theorem setI_pend (n : Nat) (s : State) (k : Nat) (v : Int) : (setI n s k v).pend = s.pend := rfl
@[simp] theorem setI_pendBlocks (n : Nat) (s : State) (k : Nat) (v : Int) : (setI n s k v).pendBlocks = s.pendBlocks := rfl
@[simp] theorem setI_pw (n : Nat) (s : State) (k : Nat) (v : Int) : (setI n s k v).pw = s.pw := rfl
@[simp] theorem setI_clk (n : Nat) (s : State) (k : Nat) (v : Int) : (setI n s k v).clk = s.clk := rfl
@[simp] theorem setI_rtc (n : Nat) (s : State) (k : Nat) (v : Int) : (setI n s k v).rtc = s.rtc := rfl
@[simp] theorem setI_ports (n : Nat) (s : State) (k : Nat) (v : Int) : (setI n s k v).ports = s.ports := rfl
@[simp] theorem setI_pads (n : Nat) (s : State) (k : Nat) (v : Int) : (setI n s k v).pads = s.pads := rfl
@[simp] theorem setI_front (n : Nat) (s : State) (k : Nat) (v : Int) : (setI n s k v).front = s.front := rfl
@[simp] theorem setI_flash (n : Nat) (s : State) (k : Nat) (v : Int) : (setI n s k v).flash = s.flash := rfl
@[simp] theorem setI_tally (n : Nat) (s : State) (k : Nat) (v : Int) : (setI n s k v).tally = s.tally := rfl
@[simp] theorem setI_accs (n : Nat) (s : State) (k : Nat) (v : Int) : (setI n s k v).accs = s.accs := rfl
@[simp] theorem setI_tdc (n : Nat) (s : State) (k : Nat) (v : Int) : (setI n s k v).tdc = s.tdc := rfl
@[simp] theorem setI_acou (n : Nat) (s : State) (k : Nat) (v : Int) : (setI n s k v).acou = s.acou := rfl
@[simp] theorem setI_flow (n : Nat) (s : State) (k : Nat) (v : Int) : (setI n s k v).flow = s.flow := rfl
@[simp] theorem setI_temp (n : Nat) (s : State) (k : Nat) (v : Int) : (setI n s k v).temp = s.temp := rfl
@[simp] theorem setI_elec (n : Nat) (s : State) (k : Nat) (v : Int) : (setI n s k v).elec = s.elec := rfl
@[simp] theorem setI_pulse (n : Nat) (s : State) (k : Nat) (v : Int) : (setI n s k v).pulse = s.pulse := rfl
@[simp] theorem setI_ly (n : Nat) (s : State) (k : Nat) (v : Int) : (setI n s k v).ly = s.ly := rfl
@[simp] theorem setI_lm (n : Nat) (s : State) (k : Nat) (v : Int) : (setI n s k v).lm = s.lm := rfl
@[simp] theorem setI_radio (n : Nat) (s : State) (k : Nat) (v : Int) : (setI n s k v).radio = s.radio := rfl
@[simp] theorem setI_free (n : Nat) (s : State) (k : Nat) (v : Int) : (setI n s k v).free = s.free := rfl
@[simp] theorem setI_pending (n : Nat) (s : State) (k : Nat) (v : Int) : (setI n s k v).pending = s.pending := rfl

/-! ### `bump` -/

@[simp] theorem bump_code (s : State) (k : Nat) : (bump s k).code = s.code := rfl
@[simp] theorem bump_img (s : State) (k : Nat) : (bump s k).img = putImage s.code s.img k ((obj s k + 1) % 2 ^ 32) := rfl
@[simp] theorem bump_shadow (s : State) (k : Nat) : (bump s k).shadow = s.shadow := rfl
@[simp] theorem bump_pend (s : State) (k : Nat) : (bump s k).pend = s.pend := rfl
@[simp] theorem bump_pendBlocks (s : State) (k : Nat) : (bump s k).pendBlocks = s.pendBlocks := rfl
@[simp] theorem bump_pw (s : State) (k : Nat) : (bump s k).pw = s.pw := rfl
@[simp] theorem bump_clk (s : State) (k : Nat) : (bump s k).clk = s.clk := rfl
@[simp] theorem bump_rtc (s : State) (k : Nat) : (bump s k).rtc = s.rtc := rfl
@[simp] theorem bump_ports (s : State) (k : Nat) : (bump s k).ports = s.ports := rfl
@[simp] theorem bump_pads (s : State) (k : Nat) : (bump s k).pads = s.pads := rfl
@[simp] theorem bump_front (s : State) (k : Nat) : (bump s k).front = s.front := rfl
@[simp] theorem bump_flash (s : State) (k : Nat) : (bump s k).flash = s.flash := rfl
@[simp] theorem bump_tally (s : State) (k : Nat) : (bump s k).tally = s.tally := rfl
@[simp] theorem bump_accs (s : State) (k : Nat) : (bump s k).accs = s.accs := rfl
@[simp] theorem bump_tdc (s : State) (k : Nat) : (bump s k).tdc = s.tdc := rfl
@[simp] theorem bump_acou (s : State) (k : Nat) : (bump s k).acou = s.acou := rfl
@[simp] theorem bump_flow (s : State) (k : Nat) : (bump s k).flow = s.flow := rfl
@[simp] theorem bump_temp (s : State) (k : Nat) : (bump s k).temp = s.temp := rfl
@[simp] theorem bump_elec (s : State) (k : Nat) : (bump s k).elec = s.elec := rfl
@[simp] theorem bump_pulse (s : State) (k : Nat) : (bump s k).pulse = s.pulse := rfl
@[simp] theorem bump_ly (s : State) (k : Nat) : (bump s k).ly = s.ly := rfl
@[simp] theorem bump_lm (s : State) (k : Nat) : (bump s k).lm = s.lm := rfl
@[simp] theorem bump_radio (s : State) (k : Nat) : (bump s k).radio = s.radio := rfl
@[simp] theorem bump_free (s : State) (k : Nat) : (bump s k).free = s.free := rfl
@[simp] theorem bump_pending (s : State) (k : Nat) : (bump s k).pending = s.pending := rfl

/-! ### `objBit` -/

@[simp] theorem objBit_code (s : State) (k i : Nat) (b : Bool) : (objBit s k i b).code = s.code := rfl
@[simp] theorem objBit_img (s : State) (k i : Nat) (b : Bool) : (objBit s k i b).img = putImage s.code s.img k (putBit (obj s k) i b) := rfl
@[simp] theorem objBit_shadow (s : State) (k i : Nat) (b : Bool) : (objBit s k i b).shadow = s.shadow := rfl
@[simp] theorem objBit_pend (s : State) (k i : Nat) (b : Bool) : (objBit s k i b).pend = s.pend := rfl
@[simp] theorem objBit_pendBlocks (s : State) (k i : Nat) (b : Bool) : (objBit s k i b).pendBlocks = s.pendBlocks := rfl
@[simp] theorem objBit_pw (s : State) (k i : Nat) (b : Bool) : (objBit s k i b).pw = s.pw := rfl
@[simp] theorem objBit_clk (s : State) (k i : Nat) (b : Bool) : (objBit s k i b).clk = s.clk := rfl
@[simp] theorem objBit_rtc (s : State) (k i : Nat) (b : Bool) : (objBit s k i b).rtc = s.rtc := rfl
@[simp] theorem objBit_ports (s : State) (k i : Nat) (b : Bool) : (objBit s k i b).ports = s.ports := rfl
@[simp] theorem objBit_pads (s : State) (k i : Nat) (b : Bool) : (objBit s k i b).pads = s.pads := rfl
@[simp] theorem objBit_front (s : State) (k i : Nat) (b : Bool) : (objBit s k i b).front = s.front := rfl
@[simp] theorem objBit_flash (s : State) (k i : Nat) (b : Bool) : (objBit s k i b).flash = s.flash := rfl
@[simp] theorem objBit_tally (s : State) (k i : Nat) (b : Bool) : (objBit s k i b).tally = s.tally := rfl
@[simp] theorem objBit_accs (s : State) (k i : Nat) (b : Bool) : (objBit s k i b).accs = s.accs := rfl
@[simp] theorem objBit_tdc (s : State) (k i : Nat) (b : Bool) : (objBit s k i b).tdc = s.tdc := rfl
@[simp] theorem objBit_acou (s : State) (k i : Nat) (b : Bool) : (objBit s k i b).acou = s.acou := rfl
@[simp] theorem objBit_flow (s : State) (k i : Nat) (b : Bool) : (objBit s k i b).flow = s.flow := rfl
@[simp] theorem objBit_temp (s : State) (k i : Nat) (b : Bool) : (objBit s k i b).temp = s.temp := rfl
@[simp] theorem objBit_elec (s : State) (k i : Nat) (b : Bool) : (objBit s k i b).elec = s.elec := rfl
@[simp] theorem objBit_pulse (s : State) (k i : Nat) (b : Bool) : (objBit s k i b).pulse = s.pulse := rfl
@[simp] theorem objBit_ly (s : State) (k i : Nat) (b : Bool) : (objBit s k i b).ly = s.ly := rfl
@[simp] theorem objBit_lm (s : State) (k i : Nat) (b : Bool) : (objBit s k i b).lm = s.lm := rfl
@[simp] theorem objBit_radio (s : State) (k i : Nat) (b : Bool) : (objBit s k i b).radio = s.radio := rfl
@[simp] theorem objBit_free (s : State) (k i : Nat) (b : Bool) : (objBit s k i b).free = s.free := rfl
@[simp] theorem objBit_pending (s : State) (k i : Nat) (b : Bool) : (objBit s k i b).pending = s.pending := rfl

/-! ### `irq` -/

@[simp] theorem irq_code (s : State) (bit : Nat) : (irq s bit).code = s.code := rfl
@[simp] theorem irq_img (s : State) (bit : Nat) : (irq s bit).img = putImage s.code s.img Obj.IrqStatus (putBit (obj s Obj.IrqStatus) bit true) := rfl
@[simp] theorem irq_shadow (s : State) (bit : Nat) : (irq s bit).shadow = s.shadow := rfl
@[simp] theorem irq_pend (s : State) (bit : Nat) : (irq s bit).pend = s.pend := rfl
@[simp] theorem irq_pendBlocks (s : State) (bit : Nat) : (irq s bit).pendBlocks = s.pendBlocks := rfl
@[simp] theorem irq_pw (s : State) (bit : Nat) : (irq s bit).pw = s.pw := rfl
@[simp] theorem irq_clk (s : State) (bit : Nat) : (irq s bit).clk = s.clk := rfl
@[simp] theorem irq_rtc (s : State) (bit : Nat) : (irq s bit).rtc = s.rtc := rfl
@[simp] theorem irq_ports (s : State) (bit : Nat) : (irq s bit).ports = s.ports := rfl
@[simp] theorem irq_pads (s : State) (bit : Nat) : (irq s bit).pads = s.pads := rfl
@[simp] theorem irq_front (s : State) (bit : Nat) : (irq s bit).front = s.front := rfl
@[simp] theorem irq_flash (s : State) (bit : Nat) : (irq s bit).flash = s.flash := rfl
@[simp] theorem irq_tally (s : State) (bit : Nat) : (irq s bit).tally = s.tally := rfl
@[simp] theorem irq_accs (s : State) (bit : Nat) : (irq s bit).accs = s.accs := rfl
@[simp] theorem irq_tdc (s : State) (bit : Nat) : (irq s bit).tdc = s.tdc := rfl
@[simp] theorem irq_acou (s : State) (bit : Nat) : (irq s bit).acou = s.acou := rfl
@[simp] theorem irq_flow (s : State) (bit : Nat) : (irq s bit).flow = s.flow := rfl
@[simp] theorem irq_temp (s : State) (bit : Nat) : (irq s bit).temp = s.temp := rfl
@[simp] theorem irq_elec (s : State) (bit : Nat) : (irq s bit).elec = s.elec := rfl
@[simp] theorem irq_pulse (s : State) (bit : Nat) : (irq s bit).pulse = s.pulse := rfl
@[simp] theorem irq_ly (s : State) (bit : Nat) : (irq s bit).ly = s.ly := rfl
@[simp] theorem irq_lm (s : State) (bit : Nat) : (irq s bit).lm = s.lm := rfl
@[simp] theorem irq_radio (s : State) (bit : Nat) : (irq s bit).radio = s.radio := rfl
@[simp] theorem irq_free (s : State) (bit : Nat) : (irq s bit).free = s.free := rfl
@[simp] theorem irq_pending (s : State) (bit : Nat) : (irq s bit).pending = s.pending := rfl

/-! ### `draw` -/

@[simp] theorem draw_code (s : State) : ((draw s).2).code = s.code := rfl
@[simp] theorem draw_img (s : State) : ((draw s).2).img = s.img := rfl
@[simp] theorem draw_shadow (s : State) : ((draw s).2).shadow = s.shadow := rfl
@[simp] theorem draw_pend (s : State) : ((draw s).2).pend = s.pend := rfl
@[simp] theorem draw_pendBlocks (s : State) : ((draw s).2).pendBlocks = s.pendBlocks := rfl
@[simp] theorem draw_pw (s : State) : ((draw s).2).pw = s.pw := rfl
@[simp] theorem draw_clk (s : State) : ((draw s).2).clk = s.clk := rfl
@[simp] theorem draw_rtc (s : State) : ((draw s).2).rtc = s.rtc := rfl
@[simp] theorem draw_ports (s : State) : ((draw s).2).ports = s.ports := rfl
@[simp] theorem draw_pads (s : State) : ((draw s).2).pads = s.pads := rfl
@[simp] theorem draw_front (s : State) : ((draw s).2).front = s.front := rfl
@[simp] theorem draw_flash (s : State) : ((draw s).2).flash = s.flash := rfl
@[simp] theorem draw_tally (s : State) : ((draw s).2).tally = s.tally := rfl
@[simp] theorem draw_accs (s : State) : ((draw s).2).accs = s.accs := rfl
@[simp] theorem draw_tdc (s : State) : ((draw s).2).tdc = s.tdc := rfl
@[simp] theorem draw_acou (s : State) : ((draw s).2).acou = s.acou := rfl
@[simp] theorem draw_flow (s : State) : ((draw s).2).flow = s.flow := rfl
@[simp] theorem draw_temp (s : State) : ((draw s).2).temp = s.temp := rfl
@[simp] theorem draw_elec (s : State) : ((draw s).2).elec = s.elec := rfl
@[simp] theorem draw_pulse (s : State) : ((draw s).2).pulse = s.pulse := rfl
@[simp] theorem draw_ly (s : State) : ((draw s).2).ly = s.ly := rfl
@[simp] theorem draw_lm (s : State) : ((draw s).2).lm = s.lm := rfl
@[simp] theorem draw_radio (s : State) : ((draw s).2).radio = s.radio := rfl
@[simp] theorem draw_free (s : State) : ((draw s).2).free = s.free + 1 := rfl
@[simp] theorem draw_pending (s : State) : ((draw s).2).pending = s.pending := rfl

/-! ### `takeTxn` -/

@[simp] theorem takeTxn_code (s : State) : ((takeTxn s).2).code = s.code := rfl
@[simp] theorem takeTxn_img (s : State) : ((takeTxn s).2).img = s.img := rfl
@[simp] theorem takeTxn_shadow (s : State) : ((takeTxn s).2).shadow = s.shadow := rfl
@[simp] theorem takeTxn_pend (s : State) : ((takeTxn s).2).pend = s.pend := rfl
@[simp] theorem takeTxn_pendBlocks (s : State) : ((takeTxn s).2).pendBlocks = s.pendBlocks := rfl
@[simp] theorem takeTxn_pw (s : State) : ((takeTxn s).2).pw = s.pw := rfl
@[simp] theorem takeTxn_clk (s : State) : ((takeTxn s).2).clk = s.clk := rfl
@[simp] theorem takeTxn_rtc (s : State) : ((takeTxn s).2).rtc = s.rtc := rfl
@[simp] theorem takeTxn_ports (s : State) : ((takeTxn s).2).ports = s.ports := rfl
@[simp] theorem takeTxn_pads (s : State) : ((takeTxn s).2).pads = s.pads := rfl
@[simp] theorem takeTxn_front (s : State) : ((takeTxn s).2).front = s.front := rfl
@[simp] theorem takeTxn_flash (s : State) : ((takeTxn s).2).flash = { s.flash with nextTxn := (s.flash.nextTxn + 1) % 2 ^ 32 } := rfl
@[simp] theorem takeTxn_tally (s : State) : ((takeTxn s).2).tally = s.tally := rfl
@[simp] theorem takeTxn_accs (s : State) : ((takeTxn s).2).accs = s.accs := rfl
@[simp] theorem takeTxn_tdc (s : State) : ((takeTxn s).2).tdc = s.tdc := rfl
@[simp] theorem takeTxn_acou (s : State) : ((takeTxn s).2).acou = s.acou := rfl
@[simp] theorem takeTxn_flow (s : State) : ((takeTxn s).2).flow = s.flow := rfl
@[simp] theorem takeTxn_temp (s : State) : ((takeTxn s).2).temp = s.temp := rfl
@[simp] theorem takeTxn_elec (s : State) : ((takeTxn s).2).elec = s.elec := rfl
@[simp] theorem takeTxn_pulse (s : State) : ((takeTxn s).2).pulse = s.pulse := rfl
@[simp] theorem takeTxn_ly (s : State) : ((takeTxn s).2).ly = s.ly := rfl
@[simp] theorem takeTxn_lm (s : State) : ((takeTxn s).2).lm = s.lm := rfl
@[simp] theorem takeTxn_radio (s : State) : ((takeTxn s).2).radio = s.radio := rfl
@[simp] theorem takeTxn_free (s : State) : ((takeTxn s).2).free = s.free := rfl
@[simp] theorem takeTxn_pending (s : State) : ((takeTxn s).2).pending = s.pending := rfl

/-! ### `setUnit` -/

@[simp] theorem setUnit_code (s : State) (u : Nat) (x : Unit) : (setUnit s u x).code = s.code := rfl
@[simp] theorem setUnit_img (s : State) (u : Nat) (x : Unit) : (setUnit s u x).img = s.img := rfl
@[simp] theorem setUnit_shadow (s : State) (u : Nat) (x : Unit) : (setUnit s u x).shadow = s.shadow := rfl
@[simp] theorem setUnit_pend (s : State) (u : Nat) (x : Unit) : (setUnit s u x).pend = s.pend := rfl
@[simp] theorem setUnit_pendBlocks (s : State) (u : Nat) (x : Unit) : (setUnit s u x).pendBlocks = s.pendBlocks := rfl
@[simp] theorem setUnit_pw (s : State) (u : Nat) (x : Unit) : (setUnit s u x).pw = s.pw := rfl
@[simp] theorem setUnit_clk (s : State) (u : Nat) (x : Unit) : (setUnit s u x).clk = s.clk := rfl
@[simp] theorem setUnit_rtc (s : State) (u : Nat) (x : Unit) : (setUnit s u x).rtc = s.rtc := rfl
@[simp] theorem setUnit_ports (s : State) (u : Nat) (x : Unit) : (setUnit s u x).ports = s.ports := rfl
@[simp] theorem setUnit_pads (s : State) (u : Nat) (x : Unit) : (setUnit s u x).pads = s.pads := rfl
@[simp] theorem setUnit_front (s : State) (u : Nat) (x : Unit) : (setUnit s u x).front = s.front := rfl
@[simp] theorem setUnit_flash (s : State) (u : Nat) (x : Unit) : (setUnit s u x).flash = { s.flash with units := mset s.flash.units u x } := rfl
@[simp] theorem setUnit_tally (s : State) (u : Nat) (x : Unit) : (setUnit s u x).tally = s.tally := rfl
@[simp] theorem setUnit_accs (s : State) (u : Nat) (x : Unit) : (setUnit s u x).accs = s.accs := rfl
@[simp] theorem setUnit_tdc (s : State) (u : Nat) (x : Unit) : (setUnit s u x).tdc = s.tdc := rfl
@[simp] theorem setUnit_acou (s : State) (u : Nat) (x : Unit) : (setUnit s u x).acou = s.acou := rfl
@[simp] theorem setUnit_flow (s : State) (u : Nat) (x : Unit) : (setUnit s u x).flow = s.flow := rfl
@[simp] theorem setUnit_temp (s : State) (u : Nat) (x : Unit) : (setUnit s u x).temp = s.temp := rfl
@[simp] theorem setUnit_elec (s : State) (u : Nat) (x : Unit) : (setUnit s u x).elec = s.elec := rfl
@[simp] theorem setUnit_pulse (s : State) (u : Nat) (x : Unit) : (setUnit s u x).pulse = s.pulse := rfl
@[simp] theorem setUnit_ly (s : State) (u : Nat) (x : Unit) : (setUnit s u x).ly = s.ly := rfl
@[simp] theorem setUnit_lm (s : State) (u : Nat) (x : Unit) : (setUnit s u x).lm = s.lm := rfl
@[simp] theorem setUnit_radio (s : State) (u : Nat) (x : Unit) : (setUnit s u x).radio = s.radio := rfl
@[simp] theorem setUnit_free (s : State) (u : Nat) (x : Unit) : (setUnit s u x).free = s.free := rfl
@[simp] theorem setUnit_pending (s : State) (u : Nat) (x : Unit) : (setUnit s u x).pending = s.pending := rfl

/-! ### `setSession` -/

@[simp] theorem setSession_code (s : State) (r : Route) (x : Session) : (setSession s r x).code = s.code := rfl
@[simp] theorem setSession_img (s : State) (r : Route) (x : Session) : (setSession s r x).img = s.img := rfl
@[simp] theorem setSession_shadow (s : State) (r : Route) (x : Session) : (setSession s r x).shadow = s.shadow := rfl
@[simp] theorem setSession_pend (s : State) (r : Route) (x : Session) : (setSession s r x).pend = s.pend := rfl
@[simp] theorem setSession_pendBlocks (s : State) (r : Route) (x : Session) : (setSession s r x).pendBlocks = s.pendBlocks := rfl
@[simp] theorem setSession_pw (s : State) (r : Route) (x : Session) : (setSession s r x).pw = s.pw := rfl
@[simp] theorem setSession_clk (s : State) (r : Route) (x : Session) : (setSession s r x).clk = s.clk := rfl
@[simp] theorem setSession_rtc (s : State) (r : Route) (x : Session) : (setSession s r x).rtc = s.rtc := rfl
@[simp] theorem setSession_ports (s : State) (r : Route) (x : Session) : (setSession s r x).ports = { s.ports with sessions := mset s.ports.sessions r.num x } := rfl
@[simp] theorem setSession_pads (s : State) (r : Route) (x : Session) : (setSession s r x).pads = s.pads := rfl
@[simp] theorem setSession_front (s : State) (r : Route) (x : Session) : (setSession s r x).front = s.front := rfl
@[simp] theorem setSession_flash (s : State) (r : Route) (x : Session) : (setSession s r x).flash = s.flash := rfl
@[simp] theorem setSession_tally (s : State) (r : Route) (x : Session) : (setSession s r x).tally = s.tally := rfl
@[simp] theorem setSession_accs (s : State) (r : Route) (x : Session) : (setSession s r x).accs = s.accs := rfl
@[simp] theorem setSession_tdc (s : State) (r : Route) (x : Session) : (setSession s r x).tdc = s.tdc := rfl
@[simp] theorem setSession_acou (s : State) (r : Route) (x : Session) : (setSession s r x).acou = s.acou := rfl
@[simp] theorem setSession_flow (s : State) (r : Route) (x : Session) : (setSession s r x).flow = s.flow := rfl
@[simp] theorem setSession_temp (s : State) (r : Route) (x : Session) : (setSession s r x).temp = s.temp := rfl
@[simp] theorem setSession_elec (s : State) (r : Route) (x : Session) : (setSession s r x).elec = s.elec := rfl
@[simp] theorem setSession_pulse (s : State) (r : Route) (x : Session) : (setSession s r x).pulse = s.pulse := rfl
@[simp] theorem setSession_ly (s : State) (r : Route) (x : Session) : (setSession s r x).ly = s.ly := rfl
@[simp] theorem setSession_lm (s : State) (r : Route) (x : Session) : (setSession s r x).lm = s.lm := rfl
@[simp] theorem setSession_radio (s : State) (r : Route) (x : Session) : (setSession s r x).radio = s.radio := rfl
@[simp] theorem setSession_free (s : State) (r : Route) (x : Session) : (setSession s r x).free = s.free := rfl
@[simp] theorem setSession_pending (s : State) (r : Route) (x : Session) : (setSession s r x).pending = s.pending := rfl

/-! ### `putOut` -/

@[simp] theorem putOut_code (s : State) (r : Route) (x : Resp) : (putOut s r x).code = s.code := rfl
@[simp] theorem putOut_img (s : State) (r : Route) (x : Resp) : (putOut s r x).img = s.img := rfl
@[simp] theorem putOut_shadow (s : State) (r : Route) (x : Resp) : (putOut s r x).shadow = s.shadow := rfl
@[simp] theorem putOut_pend (s : State) (r : Route) (x : Resp) : (putOut s r x).pend = s.pend := rfl
@[simp] theorem putOut_pendBlocks (s : State) (r : Route) (x : Resp) : (putOut s r x).pendBlocks = s.pendBlocks := rfl
@[simp] theorem putOut_pw (s : State) (r : Route) (x : Resp) : (putOut s r x).pw = s.pw := rfl
@[simp] theorem putOut_clk (s : State) (r : Route) (x : Resp) : (putOut s r x).clk = s.clk := rfl
@[simp] theorem putOut_rtc (s : State) (r : Route) (x : Resp) : (putOut s r x).rtc = s.rtc := rfl
@[simp] theorem putOut_ports (s : State) (r : Route) (x : Resp) : (putOut s r x).ports = { s.ports with out := mset s.ports.out r.num x } := rfl
@[simp] theorem putOut_pads (s : State) (r : Route) (x : Resp) : (putOut s r x).pads = s.pads := rfl
@[simp] theorem putOut_front (s : State) (r : Route) (x : Resp) : (putOut s r x).front = s.front := rfl
@[simp] theorem putOut_flash (s : State) (r : Route) (x : Resp) : (putOut s r x).flash = s.flash := rfl
@[simp] theorem putOut_tally (s : State) (r : Route) (x : Resp) : (putOut s r x).tally = s.tally := rfl
@[simp] theorem putOut_accs (s : State) (r : Route) (x : Resp) : (putOut s r x).accs = s.accs := rfl
@[simp] theorem putOut_tdc (s : State) (r : Route) (x : Resp) : (putOut s r x).tdc = s.tdc := rfl
@[simp] theorem putOut_acou (s : State) (r : Route) (x : Resp) : (putOut s r x).acou = s.acou := rfl
@[simp] theorem putOut_flow (s : State) (r : Route) (x : Resp) : (putOut s r x).flow = s.flow := rfl
@[simp] theorem putOut_temp (s : State) (r : Route) (x : Resp) : (putOut s r x).temp = s.temp := rfl
@[simp] theorem putOut_elec (s : State) (r : Route) (x : Resp) : (putOut s r x).elec = s.elec := rfl
@[simp] theorem putOut_pulse (s : State) (r : Route) (x : Resp) : (putOut s r x).pulse = s.pulse := rfl
@[simp] theorem putOut_ly (s : State) (r : Route) (x : Resp) : (putOut s r x).ly = s.ly := rfl
@[simp] theorem putOut_lm (s : State) (r : Route) (x : Resp) : (putOut s r x).lm = s.lm := rfl
@[simp] theorem putOut_radio (s : State) (r : Route) (x : Resp) : (putOut s r x).radio = s.radio := rfl
@[simp] theorem putOut_free (s : State) (r : Route) (x : Resp) : (putOut s r x).free = s.free := rfl
@[simp] theorem putOut_pending (s : State) (r : Route) (x : Resp) : (putOut s r x).pending = s.pending := rfl

/-! ### `setSeq` -/

@[simp] theorem setSeq_code (s : State) (r : Route) (q : Seq) : (setSeq s r q).code = s.code := rfl
@[simp] theorem setSeq_img (s : State) (r : Route) (q : Seq) : (setSeq s r q).img = s.img := rfl
@[simp] theorem setSeq_shadow (s : State) (r : Route) (q : Seq) : (setSeq s r q).shadow = s.shadow := rfl
@[simp] theorem setSeq_pend (s : State) (r : Route) (q : Seq) : (setSeq s r q).pend = s.pend := rfl
@[simp] theorem setSeq_pendBlocks (s : State) (r : Route) (q : Seq) : (setSeq s r q).pendBlocks = s.pendBlocks := rfl
@[simp] theorem setSeq_pw (s : State) (r : Route) (q : Seq) : (setSeq s r q).pw = s.pw := rfl
@[simp] theorem setSeq_clk (s : State) (r : Route) (q : Seq) : (setSeq s r q).clk = s.clk := rfl
@[simp] theorem setSeq_rtc (s : State) (r : Route) (q : Seq) : (setSeq s r q).rtc = s.rtc := rfl
@[simp] theorem setSeq_ports (s : State) (r : Route) (q : Seq) : (setSeq s r q).ports = { s.ports with seqs := mset s.ports.seqs r.slot q } := rfl
@[simp] theorem setSeq_pads (s : State) (r : Route) (q : Seq) : (setSeq s r q).pads = s.pads := rfl
@[simp] theorem setSeq_front (s : State) (r : Route) (q : Seq) : (setSeq s r q).front = s.front := rfl
@[simp] theorem setSeq_flash (s : State) (r : Route) (q : Seq) : (setSeq s r q).flash = s.flash := rfl
@[simp] theorem setSeq_tally (s : State) (r : Route) (q : Seq) : (setSeq s r q).tally = s.tally := rfl
@[simp] theorem setSeq_accs (s : State) (r : Route) (q : Seq) : (setSeq s r q).accs = s.accs := rfl
@[simp] theorem setSeq_tdc (s : State) (r : Route) (q : Seq) : (setSeq s r q).tdc = s.tdc := rfl
@[simp] theorem setSeq_acou (s : State) (r : Route) (q : Seq) : (setSeq s r q).acou = s.acou := rfl
@[simp] theorem setSeq_flow (s : State) (r : Route) (q : Seq) : (setSeq s r q).flow = s.flow := rfl
@[simp] theorem setSeq_temp (s : State) (r : Route) (q : Seq) : (setSeq s r q).temp = s.temp := rfl
@[simp] theorem setSeq_elec (s : State) (r : Route) (q : Seq) : (setSeq s r q).elec = s.elec := rfl
@[simp] theorem setSeq_pulse (s : State) (r : Route) (q : Seq) : (setSeq s r q).pulse = s.pulse := rfl
@[simp] theorem setSeq_ly (s : State) (r : Route) (q : Seq) : (setSeq s r q).ly = s.ly := rfl
@[simp] theorem setSeq_lm (s : State) (r : Route) (q : Seq) : (setSeq s r q).lm = s.lm := rfl
@[simp] theorem setSeq_radio (s : State) (r : Route) (q : Seq) : (setSeq s r q).radio = s.radio := rfl
@[simp] theorem setSeq_free (s : State) (r : Route) (q : Seq) : (setSeq s r q).free = s.free := rfl
@[simp] theorem setSeq_pending (s : State) (r : Route) (q : Seq) : (setSeq s r q).pending = s.pending := rfl

/-! ### `closeSlot` -/

@[simp] theorem closeSlot_code (s : State) (slot : Nat) : (closeSlot s slot).code = s.code := rfl
@[simp] theorem closeSlot_img (s : State) (slot : Nat) : (closeSlot s slot).img = s.img := rfl
@[simp] theorem closeSlot_shadow (s : State) (slot : Nat) : (closeSlot s slot).shadow = s.shadow := rfl
@[simp] theorem closeSlot_pend (s : State) (slot : Nat) : (closeSlot s slot).pend = s.pend := rfl
@[simp] theorem closeSlot_pendBlocks (s : State) (slot : Nat) : (closeSlot s slot).pendBlocks = s.pendBlocks := rfl
@[simp] theorem closeSlot_pw (s : State) (slot : Nat) : (closeSlot s slot).pw = s.pw := rfl
@[simp] theorem closeSlot_clk (s : State) (slot : Nat) : (closeSlot s slot).clk = s.clk := rfl
@[simp] theorem closeSlot_rtc (s : State) (slot : Nat) : (closeSlot s slot).rtc = s.rtc := rfl
@[simp] theorem closeSlot_ports (s : State) (slot : Nat) : (closeSlot s slot).ports = { s.ports with seqs := mdel s.ports.seqs slot } := rfl
@[simp] theorem closeSlot_pads (s : State) (slot : Nat) : (closeSlot s slot).pads = s.pads := rfl
@[simp] theorem closeSlot_front (s : State) (slot : Nat) :
    (closeSlot s slot).front = { s.front with groveRefusal := if slot = 4 then none else s.front.groveRefusal } := rfl
@[simp] theorem closeSlot_flash (s : State) (slot : Nat) : (closeSlot s slot).flash = s.flash := rfl
@[simp] theorem closeSlot_tally (s : State) (slot : Nat) : (closeSlot s slot).tally = s.tally := rfl
@[simp] theorem closeSlot_accs (s : State) (slot : Nat) : (closeSlot s slot).accs = s.accs := rfl
@[simp] theorem closeSlot_tdc (s : State) (slot : Nat) : (closeSlot s slot).tdc = s.tdc := rfl
@[simp] theorem closeSlot_acou (s : State) (slot : Nat) : (closeSlot s slot).acou = s.acou := rfl
@[simp] theorem closeSlot_flow (s : State) (slot : Nat) : (closeSlot s slot).flow = s.flow := rfl
@[simp] theorem closeSlot_temp (s : State) (slot : Nat) : (closeSlot s slot).temp = s.temp := rfl
@[simp] theorem closeSlot_elec (s : State) (slot : Nat) : (closeSlot s slot).elec = s.elec := rfl
@[simp] theorem closeSlot_pulse (s : State) (slot : Nat) : (closeSlot s slot).pulse = s.pulse := rfl
@[simp] theorem closeSlot_ly (s : State) (slot : Nat) : (closeSlot s slot).ly = s.ly := rfl
@[simp] theorem closeSlot_lm (s : State) (slot : Nat) : (closeSlot s slot).lm = s.lm := rfl
@[simp] theorem closeSlot_radio (s : State) (slot : Nat) : (closeSlot s slot).radio = s.radio := rfl
@[simp] theorem closeSlot_free (s : State) (slot : Nat) : (closeSlot s slot).free = s.free := rfl
@[simp] theorem closeSlot_pending (s : State) (slot : Nat) : (closeSlot s slot).pending = s.pending := rfl

/-! ### `freeTag` -/

@[simp] theorem freeTag_code (s : State) (slot : Nat) : (freeTag s slot).code = s.code := rfl
@[simp] theorem freeTag_img (s : State) (slot : Nat) : (freeTag s slot).img = s.img := rfl
@[simp] theorem freeTag_shadow (s : State) (slot : Nat) : (freeTag s slot).shadow = s.shadow := rfl
@[simp] theorem freeTag_pend (s : State) (slot : Nat) : (freeTag s slot).pend = s.pend := rfl
@[simp] theorem freeTag_pendBlocks (s : State) (slot : Nat) : (freeTag s slot).pendBlocks = s.pendBlocks := rfl
@[simp] theorem freeTag_pw (s : State) (slot : Nat) : (freeTag s slot).pw = s.pw := rfl
@[simp] theorem freeTag_clk (s : State) (slot : Nat) : (freeTag s slot).clk = s.clk := rfl
@[simp] theorem freeTag_rtc (s : State) (slot : Nat) : (freeTag s slot).rtc = s.rtc := rfl
@[simp] theorem freeTag_ports (s : State) (slot : Nat) : (freeTag s slot).ports = { s.ports with tags := mdel s.ports.tags slot } := rfl
@[simp] theorem freeTag_pads (s : State) (slot : Nat) : (freeTag s slot).pads = s.pads := rfl
@[simp] theorem freeTag_front (s : State) (slot : Nat) : (freeTag s slot).front = s.front := rfl
@[simp] theorem freeTag_flash (s : State) (slot : Nat) : (freeTag s slot).flash = s.flash := rfl
@[simp] theorem freeTag_tally (s : State) (slot : Nat) : (freeTag s slot).tally = s.tally := rfl
@[simp] theorem freeTag_accs (s : State) (slot : Nat) : (freeTag s slot).accs = s.accs := rfl
@[simp] theorem freeTag_tdc (s : State) (slot : Nat) : (freeTag s slot).tdc = s.tdc := rfl
@[simp] theorem freeTag_acou (s : State) (slot : Nat) : (freeTag s slot).acou = s.acou := rfl
@[simp] theorem freeTag_flow (s : State) (slot : Nat) : (freeTag s slot).flow = s.flow := rfl
@[simp] theorem freeTag_temp (s : State) (slot : Nat) : (freeTag s slot).temp = s.temp := rfl
@[simp] theorem freeTag_elec (s : State) (slot : Nat) : (freeTag s slot).elec = s.elec := rfl
@[simp] theorem freeTag_pulse (s : State) (slot : Nat) : (freeTag s slot).pulse = s.pulse := rfl
@[simp] theorem freeTag_ly (s : State) (slot : Nat) : (freeTag s slot).ly = s.ly := rfl
@[simp] theorem freeTag_lm (s : State) (slot : Nat) : (freeTag s slot).lm = s.lm := rfl
@[simp] theorem freeTag_radio (s : State) (slot : Nat) : (freeTag s slot).radio = s.radio := rfl
@[simp] theorem freeTag_free (s : State) (slot : Nat) : (freeTag s slot).free = s.free := rfl
@[simp] theorem freeTag_pending (s : State) (slot : Nat) : (freeTag s slot).pending = s.pending := rfl

/-! ### `putTag` -/

@[simp] theorem putTag_code (s : State) (slot : Nat) (x : TagUse) : (putTag s slot x).code = s.code := rfl
@[simp] theorem putTag_img (s : State) (slot : Nat) (x : TagUse) : (putTag s slot x).img = s.img := rfl
@[simp] theorem putTag_shadow (s : State) (slot : Nat) (x : TagUse) : (putTag s slot x).shadow = s.shadow := rfl
@[simp] theorem putTag_pend (s : State) (slot : Nat) (x : TagUse) : (putTag s slot x).pend = s.pend := rfl
@[simp] theorem putTag_pendBlocks (s : State) (slot : Nat) (x : TagUse) : (putTag s slot x).pendBlocks = s.pendBlocks := rfl
@[simp] theorem putTag_pw (s : State) (slot : Nat) (x : TagUse) : (putTag s slot x).pw = s.pw := rfl
@[simp] theorem putTag_clk (s : State) (slot : Nat) (x : TagUse) : (putTag s slot x).clk = s.clk := rfl
@[simp] theorem putTag_rtc (s : State) (slot : Nat) (x : TagUse) : (putTag s slot x).rtc = s.rtc := rfl
@[simp] theorem putTag_ports (s : State) (slot : Nat) (x : TagUse) : (putTag s slot x).ports = { s.ports with tags := mset s.ports.tags slot x } := rfl
@[simp] theorem putTag_pads (s : State) (slot : Nat) (x : TagUse) : (putTag s slot x).pads = s.pads := rfl
@[simp] theorem putTag_front (s : State) (slot : Nat) (x : TagUse) : (putTag s slot x).front = s.front := rfl
@[simp] theorem putTag_flash (s : State) (slot : Nat) (x : TagUse) : (putTag s slot x).flash = s.flash := rfl
@[simp] theorem putTag_tally (s : State) (slot : Nat) (x : TagUse) : (putTag s slot x).tally = s.tally := rfl
@[simp] theorem putTag_accs (s : State) (slot : Nat) (x : TagUse) : (putTag s slot x).accs = s.accs := rfl
@[simp] theorem putTag_tdc (s : State) (slot : Nat) (x : TagUse) : (putTag s slot x).tdc = s.tdc := rfl
@[simp] theorem putTag_acou (s : State) (slot : Nat) (x : TagUse) : (putTag s slot x).acou = s.acou := rfl
@[simp] theorem putTag_flow (s : State) (slot : Nat) (x : TagUse) : (putTag s slot x).flow = s.flow := rfl
@[simp] theorem putTag_temp (s : State) (slot : Nat) (x : TagUse) : (putTag s slot x).temp = s.temp := rfl
@[simp] theorem putTag_elec (s : State) (slot : Nat) (x : TagUse) : (putTag s slot x).elec = s.elec := rfl
@[simp] theorem putTag_pulse (s : State) (slot : Nat) (x : TagUse) : (putTag s slot x).pulse = s.pulse := rfl
@[simp] theorem putTag_ly (s : State) (slot : Nat) (x : TagUse) : (putTag s slot x).ly = s.ly := rfl
@[simp] theorem putTag_lm (s : State) (slot : Nat) (x : TagUse) : (putTag s slot x).lm = s.lm := rfl
@[simp] theorem putTag_radio (s : State) (slot : Nat) (x : TagUse) : (putTag s slot x).radio = s.radio := rfl
@[simp] theorem putTag_free (s : State) (slot : Nat) (x : TagUse) : (putTag s slot x).free = s.free := rfl
@[simp] theorem putTag_pending (s : State) (slot : Nat) (x : TagUse) : (putTag s slot x).pending = s.pending := rfl

/-! ### `startCclk` (R111) -/

/-- Only the clock part can change. -/
theorem startCclk_eq (s : State) : ∃ c, startCclk s = { s with clk := { s.clk with cclk := c } } := by
  unfold startCclk
  split
  · exact ⟨_, rfl⟩
  · exact ⟨s.clk.cclk, rfl⟩

@[simp] theorem startCclk_code (s : State) : (startCclk s).code = s.code := by obtain ⟨c, h⟩ := startCclk_eq s; rw [h]
@[simp] theorem startCclk_img (s : State) : (startCclk s).img = s.img := by obtain ⟨c, h⟩ := startCclk_eq s; rw [h]
@[simp] theorem startCclk_shadow (s : State) : (startCclk s).shadow = s.shadow := by obtain ⟨c, h⟩ := startCclk_eq s; rw [h]
@[simp] theorem startCclk_pend (s : State) : (startCclk s).pend = s.pend := by obtain ⟨c, h⟩ := startCclk_eq s; rw [h]
@[simp] theorem startCclk_pendBlocks (s : State) : (startCclk s).pendBlocks = s.pendBlocks := by obtain ⟨c, h⟩ := startCclk_eq s; rw [h]
@[simp] theorem startCclk_pw (s : State) : (startCclk s).pw = s.pw := by obtain ⟨c, h⟩ := startCclk_eq s; rw [h]
@[simp] theorem startCclk_rtc (s : State) : (startCclk s).rtc = s.rtc := by obtain ⟨c, h⟩ := startCclk_eq s; rw [h]
@[simp] theorem startCclk_ports (s : State) : (startCclk s).ports = s.ports := by obtain ⟨c, h⟩ := startCclk_eq s; rw [h]
@[simp] theorem startCclk_pads (s : State) : (startCclk s).pads = s.pads := by obtain ⟨c, h⟩ := startCclk_eq s; rw [h]
@[simp] theorem startCclk_front (s : State) : (startCclk s).front = s.front := by obtain ⟨c, h⟩ := startCclk_eq s; rw [h]
@[simp] theorem startCclk_flash (s : State) : (startCclk s).flash = s.flash := by obtain ⟨c, h⟩ := startCclk_eq s; rw [h]
@[simp] theorem startCclk_tally (s : State) : (startCclk s).tally = s.tally := by obtain ⟨c, h⟩ := startCclk_eq s; rw [h]
@[simp] theorem startCclk_accs (s : State) : (startCclk s).accs = s.accs := by obtain ⟨c, h⟩ := startCclk_eq s; rw [h]
@[simp] theorem startCclk_tdc (s : State) : (startCclk s).tdc = s.tdc := by obtain ⟨c, h⟩ := startCclk_eq s; rw [h]
@[simp] theorem startCclk_acou (s : State) : (startCclk s).acou = s.acou := by obtain ⟨c, h⟩ := startCclk_eq s; rw [h]
@[simp] theorem startCclk_flow (s : State) : (startCclk s).flow = s.flow := by obtain ⟨c, h⟩ := startCclk_eq s; rw [h]
@[simp] theorem startCclk_temp (s : State) : (startCclk s).temp = s.temp := by obtain ⟨c, h⟩ := startCclk_eq s; rw [h]
@[simp] theorem startCclk_elec (s : State) : (startCclk s).elec = s.elec := by obtain ⟨c, h⟩ := startCclk_eq s; rw [h]
@[simp] theorem startCclk_pulse (s : State) : (startCclk s).pulse = s.pulse := by obtain ⟨c, h⟩ := startCclk_eq s; rw [h]
@[simp] theorem startCclk_ly (s : State) : (startCclk s).ly = s.ly := by obtain ⟨c, h⟩ := startCclk_eq s; rw [h]
@[simp] theorem startCclk_lm (s : State) : (startCclk s).lm = s.lm := by obtain ⟨c, h⟩ := startCclk_eq s; rw [h]
@[simp] theorem startCclk_radio (s : State) : (startCclk s).radio = s.radio := by obtain ⟨c, h⟩ := startCclk_eq s; rw [h]
@[simp] theorem startCclk_free (s : State) : (startCclk s).free = s.free := by obtain ⟨c, h⟩ := startCclk_eq s; rw [h]
@[simp] theorem startCclk_pending (s : State) : (startCclk s).pending = s.pending := by obtain ⟨c, h⟩ := startCclk_eq s; rw [h]

/-! ### `advanceSeq` (R226) -/

@[simp] theorem advanceSeq_front (s : State) : (advanceSeq s).front = { s.front with seq := (s.front.seq + 1) % 256 } := rfl
@[simp] theorem advanceSeq_code (s : State) : (advanceSeq s).code = s.code := rfl
@[simp] theorem advanceSeq_img (s : State) : (advanceSeq s).img = s.img := rfl
@[simp] theorem advanceSeq_shadow (s : State) : (advanceSeq s).shadow = s.shadow := rfl
@[simp] theorem advanceSeq_pend (s : State) : (advanceSeq s).pend = s.pend := rfl
@[simp] theorem advanceSeq_pendBlocks (s : State) : (advanceSeq s).pendBlocks = s.pendBlocks := rfl
@[simp] theorem advanceSeq_pw (s : State) : (advanceSeq s).pw = s.pw := rfl
@[simp] theorem advanceSeq_rtc (s : State) : (advanceSeq s).rtc = s.rtc := rfl
@[simp] theorem advanceSeq_ports (s : State) : (advanceSeq s).ports = s.ports := rfl
@[simp] theorem advanceSeq_pads (s : State) : (advanceSeq s).pads = s.pads := rfl
@[simp] theorem advanceSeq_flash (s : State) : (advanceSeq s).flash = s.flash := rfl
@[simp] theorem advanceSeq_tally (s : State) : (advanceSeq s).tally = s.tally := rfl
@[simp] theorem advanceSeq_accs (s : State) : (advanceSeq s).accs = s.accs := rfl
@[simp] theorem advanceSeq_tdc (s : State) : (advanceSeq s).tdc = s.tdc := rfl
@[simp] theorem advanceSeq_acou (s : State) : (advanceSeq s).acou = s.acou := rfl
@[simp] theorem advanceSeq_flow (s : State) : (advanceSeq s).flow = s.flow := rfl
@[simp] theorem advanceSeq_temp (s : State) : (advanceSeq s).temp = s.temp := rfl
@[simp] theorem advanceSeq_elec (s : State) : (advanceSeq s).elec = s.elec := rfl
@[simp] theorem advanceSeq_pulse (s : State) : (advanceSeq s).pulse = s.pulse := rfl
@[simp] theorem advanceSeq_ly (s : State) : (advanceSeq s).ly = s.ly := rfl
@[simp] theorem advanceSeq_lm (s : State) : (advanceSeq s).lm = s.lm := rfl
@[simp] theorem advanceSeq_radio (s : State) : (advanceSeq s).radio = s.radio := rfl
@[simp] theorem advanceSeq_free (s : State) : (advanceSeq s).free = s.free := rfl
@[simp] theorem advanceSeq_pending (s : State) : (advanceSeq s).pending = s.pending := rfl
@[simp] theorem advanceSeq_clk (s : State) : (advanceSeq s).clk = s.clk := rfl

end Sys2Proof.Machine
end

