-- ==== Sys2Proof/Laws/Image.lean ====
section
/-! SUPPORT. The store image: reading an object after setting one, and its canonical form, which every image write keeps. -/

namespace Sys2Proof.Machine

/-- Reading an object of an image after a put. -/
theorem mfind_putImage (c : OrderCode) (m : NMap Nat) (k j v : Nat) :
    (mfind (putImage c m k v) j).getD (dfltOf c j) = if j = k then v else (mfind m j).getD (dfltOf c j) := by
  unfold putImage
  by_cases hj : j = k
  · subst hj
    by_cases hv : v = dfltOf c j <;> simp [hv]
  · by_cases hv : v = dfltOf c k <;> simp [hv, hj, mfind_mset, mfind_mdel]

/-- Reading an object after setting one. -/
theorem obj_setObj (s : State) (k j v : Nat) : obj (setObj s k v) j = if j = k then v else obj s j :=
  mfind_putImage s.code s.img k j v

/-- The object just set. -/
@[simp] theorem obj_setObj_self (s : State) (k v : Nat) : obj (setObj s k v) k = v := by simp [obj_setObj]

/-- Another object than the one set. -/
theorem obj_setObj_of_ne (s : State) {k j : Nat} (v : Nat) (h : j ≠ k) : obj (setObj s k v) j = obj s j := by simp [obj_setObj, h]

/-- Two states with one image and one ordering code read the same objects. -/
theorem obj_congr {s t : State} (hc : t.code = s.code) (hi : t.img = s.img) (k : Nat) : obj t k = obj s k := by
  unfold obj
  rw [hc, hi]

/-- An object that no entry of the list names keeps its value. -/
theorem obj_setMany_of_not_mem (l : List (Nat × Nat)) (s : State) (j : Nat) (h : ∀ e ∈ l, e.1 ≠ j) : obj (setMany s l) j = obj s j := by
  induction l generalizing s with
  | nil => rfl
  | cons e t ih =>
    refine (ih (setObj s e.1 e.2) (fun a ha => h a (List.mem_cons_of_mem _ ha))).trans ?_
    exact obj_setObj_of_ne s e.2 (Ne.symm (h e List.mem_cons_self))

/-- Setting several objects touches nothing but the image. -/
theorem setMany_eq (l : List (Nat × Nat)) (s : State) : ∃ m, setMany s l = { s with img := m } := by
  induction l generalizing s with
  | nil => exact ⟨s.img, rfl⟩
  | cons e t ih =>
    obtain ⟨m, hm⟩ := ih (setObj s e.1 e.2)
    exact ⟨m, hm⟩

/-! ### The canonical form -/

/-- A canonical image by its two conditions. -/
theorem imageWf_iff (s : State) : s.imageWf = true ↔ rising s.img = true ∧ ∀ e ∈ s.img, e.2 ≠ dfltOf s.code e.1 := by
  simp [State.imageWf, noDefaults]

/-- The canonical form depends on the image and the ordering code alone. -/
theorem imageWf_congr {s t : State} (hc : t.code = s.code) (hi : t.img = s.img) : t.imageWf = s.imageWf := by
  unfold State.imageWf
  rw [hc, hi]

/-- A put keeps an image canonical. -/
theorem putImage_wf (c : OrderCode) (m : NMap Nat) (k v : Nat) (hr : rising m = true) (hd : ∀ e ∈ m, e.2 ≠ dfltOf c e.1) :
    rising (putImage c m k v) = true ∧ ∀ e ∈ putImage c m k v, e.2 ≠ dfltOf c e.1 := by
  unfold putImage
  split
  · exact ⟨rising_mdel m k hr, fun e he => hd e (mem_mdel m k e he).1⟩
  · rename_i hv
    refine ⟨rising_mset m k v hr, fun e he => ?_⟩
    rcases mem_mset m k v e he with rfl | he
    · exact hv
    · exact hd e he

/-- Setting an object keeps the image canonical. -/
theorem imageWf_setObj (s : State) (k v : Nat) (h : s.imageWf = true) : (setObj s k v).imageWf = true := by
  rw [imageWf_iff] at h ⊢
  exact putImage_wf s.code s.img k v h.1 h.2

/-- Setting several objects keeps the image canonical. -/
theorem imageWf_setMany (l : List (Nat × Nat)) (s : State) (h : s.imageWf = true) : (setMany s l).imageWf = true := by
  induction l generalizing s with
  | nil => exact h
  | cons e t ih => exact ih _ (imageWf_setObj s e.1 e.2 h)

/-- What a canonical image lists: the objects that read as another value than their default. -/
theorem mem_canonical (c : OrderCode) (m : NMap Nat) (hr : rising m = true) (hd : ∀ e ∈ m, e.2 ≠ dfltOf c e.1) (k v : Nat) :
    (k, v) ∈ m ↔ (mfind m k).getD (dfltOf c k) = v ∧ v ≠ dfltOf c k := by
  rw [rising_iff] at hr
  induction m with
  | nil => simp [mfind, eq_comm]
  | cons a u ih =>
    obtain ⟨i, w⟩ := a
    have ihu := ih hr.of_cons (fun x hx => hd x (List.mem_cons_of_mem _ hx))
    have hlt : ∀ x ∈ u, i < x.1 := fun x hx => List.rel_of_pairwise_cons hr hx
    by_cases hi : i = k
    · subst hi
      have hw : w ≠ dfltOf c i := hd (i, w) List.mem_cons_self
      have hno : (i, v) ∉ u := fun hm => absurd (hlt _ hm) (lt_irrefl i)
      simp only [mfind, ↓reduceIte, Option.getD_some, List.mem_cons, hno, or_false, Prod.mk.injEq, true_and]
      exact ⟨fun h => ⟨h.symm, h ▸ hw⟩, fun h => h.1.symm⟩
    · have hne : (k, v) ≠ (i, w) := fun h => hi (congrArg Prod.fst h).symm
      simp only [mfind, hi, ↓reduceIte, List.mem_cons, hne, false_or]
      exact ihu

/-- Two canonical images that read the same are the same data. -/
theorem img_ext {s t : State} (hc : t.code = s.code) (hs : s.imageWf = true) (ht : t.imageWf = true)
    (h : ∀ k, obj t k = obj s k) : t.img = s.img := by
  rw [imageWf_iff] at hs ht
  rw [hc] at ht
  have hp := (rising_iff _).mp ht.1
  have hq := (rising_iff _).mp hs.1
  have hnd : ∀ {m : NMap Nat}, m.Pairwise (fun a b => a.1 < b.1) → m.Nodup := fun hm =>
    hm.imp fun {a b} hab he => absurd (congrArg Prod.fst he) (Nat.ne_of_lt hab)
  refine List.Perm.eq_of_pairwise (le := fun a b : Nat × Nat => a.1 < b.1) (fun a b _ _ hab hba => absurd hab (lt_asymm hba)) hp hq
    ((List.perm_ext_iff_of_nodup (hnd hp) (hnd hq)).mpr fun e => ?_)
  obtain ⟨k, v⟩ := e
  have hk := h k
  unfold obj at hk
  rw [hc] at hk
  rw [mem_canonical s.code t.img ht.1 ht.2, mem_canonical s.code s.img hs.1 hs.2, hk]

end Sys2Proof.Machine
end

