-- ==== Sys2Proof/Laws/Keeps.lean ====
section
/-! SUPPORT. The facts every operation of the machine keeps, as one relation that composes: the ordering code, the waiting commands, the canonical image
and the legal session levels. -/

namespace Sys2Proof.Machine

/-- The second state has the first one's code and waiting commands, and its image and session levels are well formed where the first one's are. -/
def Keeps (s t : State) : Prop :=
  t.code = s.code ∧ t.pending = s.pending ∧ (s.imageWf = true → t.imageWf = true) ∧ (s.levelsWf = true → t.levelsWf = true)

/-- Nothing changes. -/
theorem Keeps.refl (s : State) : Keeps s s := ⟨rfl, rfl, id, id⟩

/-- One operation after another. -/
theorem Keeps.trans {s t u : State} (h : Keeps s t) (g : Keeps t u) : Keeps s u :=
  ⟨g.1.trans h.1, g.2.1.trans h.2.1, fun w => g.2.2.1 (h.2.2.1 w), fun w => g.2.2.2 (h.2.2.2 w)⟩

/-- An update of anything but the four. -/
theorem Keeps.of_eq {s t : State} (hc : t.code = s.code) (hp : t.pending = s.pending) (hi : t.img = s.img)
    (hl : t.ports.sessions = s.ports.sessions) : Keeps s t :=
  ⟨hc, hp, fun w => (imageWf_congr hc hi).trans w, fun w => by unfold State.levelsWf at w ⊢; rwa [hl]⟩

/-- Setting an object. -/
theorem keeps_setObj (s : State) (k v : Nat) : Keeps s (setObj s k v) := ⟨rfl, rfl, imageWf_setObj s k v, id⟩

/-- Advancing a count. -/
theorem keeps_bump (s : State) (k : Nat) : Keeps s (bump s k) := keeps_setObj s k _

/-- Setting a signed object. -/
theorem keeps_setI (n : Nat) (s : State) (k : Nat) (v : Int) : Keeps s (setI n s k v) := keeps_setObj s k _

/-- Moving a bit of an object. -/
theorem keeps_objBit (s : State) (k i : Nat) (b : Bool) : Keeps s (objBit s k i b) := keeps_setObj s k _

/-- Setting an interrupt status bit. -/
theorem keeps_irq (s : State) (bit : Nat) : Keeps s (irq s bit) := keeps_setObj s _ _

/-- A fold of operations that each keep the four. -/
theorem keeps_foldl {α : Type} (f : State → α → State) (hf : ∀ s a, Keeps s (f s a)) (l : List α) (s : State) : Keeps s (l.foldl f s) := by
  induction l generalizing s with
  | nil => exact Keeps.refl s
  | cons a t ih => exact (hf s a).trans (ih (f s a))

/-- Starting CCLK keeps the machine well formed (R111). -/
theorem keeps_startCclk (s : State) : Keeps s (startCclk s) := by
  obtain ⟨c, hc⟩ := startCclk_eq s
  rw [hc]
  exact Keeps.of_eq rfl rfl rfl rfl

/-- Setting several objects. -/
theorem keeps_setMany (s : State) (l : List (Nat × Nat)) : Keeps s (setMany s l) :=
  keeps_foldl (fun t (e : Nat × Nat) => setObj t e.1 e.2) (fun t e => keeps_setObj t e.1 e.2) l s

/-- Storing a session that stands at a level of R142. -/
theorem keeps_setSession (s : State) (r : Route) (x : Session) (h : s.levelsWf = true → x.level ≤ 4) : Keeps s (setSession s r x) := by
  refine ⟨rfl, rfl, fun w => (imageWf_congr rfl rfl).trans w, fun w => ?_⟩
  have hx := h w
  simp only [State.levelsWf, setSession_ports, List.all_eq_true, decide_eq_true_eq] at w ⊢
  intro e he
  rcases mem_mset _ _ _ _ he with rfl | he
  · exact hx
  · exact w e he

/-- In a state whose levels are legal, each route's session stands at a level of R142. -/
theorem session_level_le (s : State) (r : Route) (w : s.levelsWf = true) : (session s r).level ≤ 4 := by
  simp only [State.levelsWf, List.all_eq_true, decide_eq_true_eq] at w
  have look : ∀ (m : NMap Session) (k : Nat), (∀ e ∈ m, e.2.level ≤ 4) → (mget m k (Session.fresh 0)).level ≤ 4 := by
    intro m k hm
    induction m with
    | nil => simp [mget, mfind, Session.fresh]
    | cons a t ih =>
      obtain ⟨i, v⟩ := a
      by_cases hi : i = k
      · simpa [mget, mfind, hi] using hm (i, v) List.mem_cons_self
      · simpa [mget, mfind, hi] using ih (fun e he => hm e (List.mem_cons_of_mem _ he))
  exact look _ _ w

/-- What holds of both branches holds of the choice. -/
theorem ite_both {P : State → Prop} {c : Prop} [Decidable c] {a b : State} (ha : P a) (hb : P b) : P (if c then a else b) := by
  split
  · exact ha
  · exact hb

/-- A command that acts where its condition holds. -/
theorem keeps_when {c : Bool} {s t : State} {f : State → State} (hf : c = true → Keeps s (f s)) (h : when c s f = .next t) : Keeps s t := by
  cases c with
  | false =>
    obtain rfl : s = t := by simpa [when] using h
    exact Keeps.refl s
  | true =>
    obtain rfl : f s = t := by simpa [when] using h
    exact hf rfl

end Sys2Proof.Machine
end

