-- ==== Sys2Proof/Laws/Only.lean ====
section
/-! SUPPORT. What a command may touch (`Only`), how such facts compose, and the named updates in those words. -/

namespace Sys2Proof.Machine

/-- Nothing changes. -/
theorem Only.refl (ks : List (Nat × Nat)) (ps : List Part) (s : State) : Only ks ps s s :=
  ⟨rfl, rfl, fun _ _ => rfl, fun p _ => by cases p <;> first | rfl | exact ⟨rfl, rfl⟩⟩

/-- Two states that agree on a part, and two more, agree from end to end. -/
theorem Part.same.trans {p : Part} {s t u : State} (h : p.same s t) (g : p.same t u) : p.same s u := by
  cases p <;> first | exact Eq.trans g h | exact ⟨Eq.trans g.1 h.1, Eq.trans g.2 h.2⟩

/-- One change after another. -/
theorem Only.trans {ks : List (Nat × Nat)} {ps : List Part} {s t u : State} (h : Only ks ps s t) (g : Only ks ps t u) : Only ks ps s u :=
  ⟨g.1.trans h.1, g.2.1.trans h.2.1, fun k hk => (g.2.2.1 k hk).trans (h.2.2.1 k hk), fun p hp => (h.2.2.2 p hp).trans (g.2.2.2 p hp)⟩

/-- What touches little touches at most more. -/
theorem Only.mono {ks ks' : List (Nat × Nat)} {ps ps' : List Part} {s t : State} (h : Only ks ps s t)
    (hk : ∀ k, inKeys ks' k = false → inKeys ks k = false) (hp : ∀ p ∈ ps, p ∈ ps') : Only ks' ps' s t :=
  ⟨h.1, h.2.1, fun k hn => h.2.2.1 k (hk k hn), fun p hn => h.2.2.2 p (fun hm => hn (hp p hm))⟩

/-- Keys outside a longer list of ranges are outside its front. -/
theorem inKeys_append (a b : List (Nat × Nat)) (k : Nat) : inKeys (a ++ b) k = (inKeys a k || inKeys b k) := by
  simp [inKeys, List.any_append]

/-- A key of a range is in the list's keys. -/
theorem inKeys_of_mem {ks : List (Nat × Nat)} {e : Nat × Nat} {k : Nat} (he : e ∈ ks) (h1 : e.1 ≤ k) (h2 : k ≤ e.2) : inKeys ks k = true := by
  simp only [inKeys, List.any_eq_true, Bool.and_eq_true, decide_eq_true_eq]
  exact ⟨e, he, h1, h2⟩

/-- Setting an object touches that object. -/
theorem only_setObj {ks : List (Nat × Nat)} (ps : List Part) (s : State) {k : Nat} (v : Nat) (h : inKeys ks k = true) :
    Only ks ps s (setObj s k v) :=
  ⟨rfl, rfl, fun j hj => obj_setObj_of_ne s v (fun e => by subst e; rw [h] at hj; cases hj), fun p _ => by
    cases p <;> first | rfl | exact ⟨rfl, rfl⟩⟩

/-- Advancing a count touches that count. -/
theorem only_bump {ks : List (Nat × Nat)} (ps : List Part) (s : State) {k : Nat} (h : inKeys ks k = true) : Only ks ps s (bump s k) :=
  only_setObj ps s _ h

/-- Moving a bit touches its object. -/
theorem only_objBit {ks : List (Nat × Nat)} (ps : List Part) (s : State) {k : Nat} (i : Nat) (b : Bool) (h : inKeys ks k = true) :
    Only ks ps s (objBit s k i b) :=
  only_setObj ps s _ h

/-- Setting several objects touches those objects. -/
theorem only_setMany {ks : List (Nat × Nat)} (ps : List Part) (l : List (Nat × Nat)) (s : State) (h : ∀ e ∈ l, inKeys ks e.1 = true) :
    Only ks ps s (setMany s l) := by
  induction l generalizing s with
  | nil => exact Only.refl ks ps s
  | cons e t ih =>
    exact (only_setObj ps s e.2 (h e List.mem_cons_self)).trans (ih _ (fun a ha => h a (List.mem_cons_of_mem _ ha)))

/-! ### An update of one part -/

theorem only_shadow (ks : List (Nat × Nat)) {ps : List Part} (s : State) (x : NMap Nat) (hm : Part.shadow ∈ ps) : Only ks ps s { s with shadow := x } :=
  ⟨rfl, rfl, fun k _ => obj_congr (s := s) rfl rfl k, fun p hp => by cases p <;> first | rfl | exact ⟨rfl, rfl⟩ | exact absurd hm hp⟩

theorem only_pw (ks : List (Nat × Nat)) {ps : List Part} (s : State) (x : Power) (hm : Part.pw ∈ ps) : Only ks ps s { s with pw := x } :=
  ⟨rfl, rfl, fun k _ => obj_congr (s := s) rfl rfl k, fun p hp => by cases p <;> first | rfl | exact ⟨rfl, rfl⟩ | exact absurd hm hp⟩

theorem only_clk (ks : List (Nat × Nat)) {ps : List Part} (s : State) (x : Clk) (hm : Part.clk ∈ ps) : Only ks ps s { s with clk := x } :=
  ⟨rfl, rfl, fun k _ => obj_congr (s := s) rfl rfl k, fun p hp => by cases p <;> first | rfl | exact ⟨rfl, rfl⟩ | exact absurd hm hp⟩

theorem only_rtc (ks : List (Nat × Nat)) {ps : List Part} (s : State) (x : Rtc) (hm : Part.rtc ∈ ps) : Only ks ps s { s with rtc := x } :=
  ⟨rfl, rfl, fun k _ => obj_congr (s := s) rfl rfl k, fun p hp => by cases p <;> first | rfl | exact ⟨rfl, rfl⟩ | exact absurd hm hp⟩

theorem only_ports (ks : List (Nat × Nat)) {ps : List Part} (s : State) (x : Ports) (hm : Part.ports ∈ ps) : Only ks ps s { s with ports := x } :=
  ⟨rfl, rfl, fun k _ => obj_congr (s := s) rfl rfl k, fun p hp => by cases p <;> first | rfl | exact ⟨rfl, rfl⟩ | exact absurd hm hp⟩

theorem only_pads (ks : List (Nat × Nat)) {ps : List Part} (s : State) (x : Pads) (hm : Part.pads ∈ ps) : Only ks ps s { s with pads := x } :=
  ⟨rfl, rfl, fun k _ => obj_congr (s := s) rfl rfl k, fun p hp => by cases p <;> first | rfl | exact ⟨rfl, rfl⟩ | exact absurd hm hp⟩

theorem only_front (ks : List (Nat × Nat)) {ps : List Part} (s : State) (x : Front) (hm : Part.front ∈ ps) : Only ks ps s { s with front := x } :=
  ⟨rfl, rfl, fun k _ => obj_congr (s := s) rfl rfl k, fun p hp => by cases p <;> first | rfl | exact ⟨rfl, rfl⟩ | exact absurd hm hp⟩

theorem only_flash (ks : List (Nat × Nat)) {ps : List Part} (s : State) (x : Flash) (hm : Part.flash ∈ ps) : Only ks ps s { s with flash := x } :=
  ⟨rfl, rfl, fun k _ => obj_congr (s := s) rfl rfl k, fun p hp => by cases p <;> first | rfl | exact ⟨rfl, rfl⟩ | exact absurd hm hp⟩

theorem only_tally (ks : List (Nat × Nat)) {ps : List Part} (s : State) (x : Tally) (hm : Part.tally ∈ ps) : Only ks ps s { s with tally := x } :=
  ⟨rfl, rfl, fun k _ => obj_congr (s := s) rfl rfl k, fun p hp => by cases p <;> first | rfl | exact ⟨rfl, rfl⟩ | exact absurd hm hp⟩

theorem only_accs (ks : List (Nat × Nat)) {ps : List Part} (s : State) (x : Accs) (hm : Part.accs ∈ ps) : Only ks ps s { s with accs := x } :=
  ⟨rfl, rfl, fun k _ => obj_congr (s := s) rfl rfl k, fun p hp => by cases p <;> first | rfl | exact ⟨rfl, rfl⟩ | exact absurd hm hp⟩

theorem only_tdc (ks : List (Nat × Nat)) {ps : List Part} (s : State) (x : Tdc) (hm : Part.tdc ∈ ps) : Only ks ps s { s with tdc := x } :=
  ⟨rfl, rfl, fun k _ => obj_congr (s := s) rfl rfl k, fun p hp => by cases p <;> first | rfl | exact ⟨rfl, rfl⟩ | exact absurd hm hp⟩

theorem only_acou (ks : List (Nat × Nat)) {ps : List Part} (s : State) (x : Acou) (hm : Part.acou ∈ ps) : Only ks ps s { s with acou := x } :=
  ⟨rfl, rfl, fun k _ => obj_congr (s := s) rfl rfl k, fun p hp => by cases p <;> first | rfl | exact ⟨rfl, rfl⟩ | exact absurd hm hp⟩

theorem only_flow (ks : List (Nat × Nat)) {ps : List Part} (s : State) (x : Flow) (hm : Part.flow ∈ ps) : Only ks ps s { s with flow := x } :=
  ⟨rfl, rfl, fun k _ => obj_congr (s := s) rfl rfl k, fun p hp => by cases p <;> first | rfl | exact ⟨rfl, rfl⟩ | exact absurd hm hp⟩

theorem only_temp (ks : List (Nat × Nat)) {ps : List Part} (s : State) (x : Temp) (hm : Part.temp ∈ ps) : Only ks ps s { s with temp := x } :=
  ⟨rfl, rfl, fun k _ => obj_congr (s := s) rfl rfl k, fun p hp => by cases p <;> first | rfl | exact ⟨rfl, rfl⟩ | exact absurd hm hp⟩

theorem only_elec (ks : List (Nat × Nat)) {ps : List Part} (s : State) (x : Elec) (hm : Part.elec ∈ ps) : Only ks ps s { s with elec := x } :=
  ⟨rfl, rfl, fun k _ => obj_congr (s := s) rfl rfl k, fun p hp => by cases p <;> first | rfl | exact ⟨rfl, rfl⟩ | exact absurd hm hp⟩

theorem only_pulse (ks : List (Nat × Nat)) {ps : List Part} (s : State) (x : Pulse) (hm : Part.pulse ∈ ps) : Only ks ps s { s with pulse := x } :=
  ⟨rfl, rfl, fun k _ => obj_congr (s := s) rfl rfl k, fun p hp => by cases p <;> first | rfl | exact ⟨rfl, rfl⟩ | exact absurd hm hp⟩

theorem only_ly (ks : List (Nat × Nat)) {ps : List Part} (s : State) (x : LySlave) (hm : Part.ly ∈ ps) : Only ks ps s { s with ly := x } :=
  ⟨rfl, rfl, fun k _ => obj_congr (s := s) rfl rfl k, fun p hp => by cases p <;> first | rfl | exact ⟨rfl, rfl⟩ | exact absurd hm hp⟩

theorem only_lm (ks : List (Nat × Nat)) {ps : List Part} (s : State) (x : LyMaster) (hm : Part.lm ∈ ps) : Only ks ps s { s with lm := x } :=
  ⟨rfl, rfl, fun k _ => obj_congr (s := s) rfl rfl k, fun p hp => by cases p <;> first | rfl | exact ⟨rfl, rfl⟩ | exact absurd hm hp⟩

theorem only_radio (ks : List (Nat × Nat)) {ps : List Part} (s : State) (x : Radio) (hm : Part.radio ∈ ps) : Only ks ps s { s with radio := x } :=
  ⟨rfl, rfl, fun k _ => obj_congr (s := s) rfl rfl k, fun p hp => by cases p <;> first | rfl | exact ⟨rfl, rfl⟩ | exact absurd hm hp⟩

theorem only_free (ks : List (Nat × Nat)) {ps : List Part} (s : State) (x : Nat) (hm : Part.free ∈ ps) : Only ks ps s { s with free := x } :=
  ⟨rfl, rfl, fun k _ => obj_congr (s := s) rfl rfl k, fun p hp => by cases p <;> first | rfl | exact ⟨rfl, rfl⟩ | exact absurd hm hp⟩

theorem only_pend (ks : List (Nat × Nat)) {ps : List Part} (s : State) (x : NMap Nat) (b : List Block) (hm : Part.pend ∈ ps) :
    Only ks ps s { s with pend := x, pendBlocks := b } :=
  ⟨rfl, rfl, fun k _ => obj_congr (s := s) rfl rfl k, fun p hp => by cases p <;> first | rfl | exact ⟨rfl, rfl⟩ | exact absurd hm hp⟩

/-- Starting CCLK touches the clock part (R111). -/
theorem only_startCclk (ks : List (Nat × Nat)) {ps : List Part} (s : State) (hm : Part.clk ∈ ps) : Only ks ps s (startCclk s) := by
  obtain ⟨c, hc⟩ := startCclk_eq s
  rw [hc]
  exact only_clk ks s _ hm

end Sys2Proof.Machine
end

