-- ==== Sys2Proof/Laws/Events.lean ====
section
/-! SUPPORT. Events, error flags, the transmit queue and the journal queue: for each shared operation what it may touch, and that it keeps the machine
well formed. -/

namespace Sys2Proof.Machine

/-! ### The transmit queue (R598) -/

/-- Queueing a frame touches the radio, or counts a drop. -/
theorem only_enqueueEntry (s : State) (cls peer control : Nat) (payload : List Byte) (chan : Option Nat) (train : Bool) :
    Only eventKeys eventParts s (enqueueEntry s cls peer control payload chan train) := by
  unfold enqueueEntry
  split
  · exact only_bump _ s rfl
  · exact (only_startCclk eventKeys s (by decide)).trans (only_radio eventKeys _ _ (by decide))

/-- Queueing a frame keeps the machine well formed. -/
theorem keeps_enqueueEntry (s : State) (cls peer control : Nat) (payload : List Byte) (chan : Option Nat) (train : Bool) :
    Keeps s (enqueueEntry s cls peer control payload chan train) := by
  unfold enqueueEntry
  split
  · exact keeps_bump s _
  · exact (keeps_startCclk s).trans (Keeps.of_eq rfl rfl rfl rfl)

/-- With room, the frame is the last of the queue. -/
theorem enqueueEntry_txq (s : State) (cls peer control : Nat) (payload : List Byte) (chan : Option Nat) (train : Bool)
    (h : s.radio.txq.length < 8) :
    (enqueueEntry s cls peer control payload chan train).radio.txq
      = s.radio.txq ++ [⟨s.radio.nextId, cls, peer, control, payload, ticks s, chan, train⟩] := by
  unfold enqueueEntry
  rw [if_neg (by omega)]

/-- The alarm telegram touches the radio, or counts a drop (R570). -/
theorem only_alarmTelegram (s : State) : Only eventKeys eventParts s (alarmTelegram s) := by
  unfold alarmTelegram
  exact ite_both (P := Only eventKeys eventParts s)
    ((only_enqueueEntry s _ _ _ _ _ _).trans (only_radio eventKeys _ _ (by decide)))
    (Only.refl _ _ s)

/-- The alarm telegram keeps the machine well formed. -/
theorem keeps_alarmTelegram (s : State) : Keeps s (alarmTelegram s) := by
  unfold alarmTelegram
  exact ite_both (P := Keeps s) ((keeps_enqueueEntry s _ _ _ _ _ _).trans (Keeps.of_eq rfl rfl rfl rfl)) (Keeps.refl s)

/-! ### The event queue (R485, R492) -/

/-- Queueing an event touches the tally part, or counts it lost. -/
theorem only_queueEvent (s : State) (e : Event) : Only eventKeys eventParts s (queueEvent s e) := by
  unfold queueEvent
  split
  · exact (only_bump _ s rfl).trans (only_tally eventKeys _ _ (by decide))
  · exact (only_startCclk eventKeys s (by decide)).trans (only_tally eventKeys _ _ (by decide))

/-- Queueing an event keeps the machine well formed. -/
theorem keeps_queueEvent (s : State) (e : Event) : Keeps s (queueEvent s e) := by
  unfold queueEvent
  split
  · exact (keeps_bump s _).trans (Keeps.of_eq rfl rfl rfl rfl)
  · exact (keeps_startCclk s).trans (Keeps.of_eq rfl rfl rfl rfl)

/-- With room and a store that is not read-only, the event is the last of the queue. -/
theorem queueEvent_eventQ (s : State) (e : Event) (h : s.tally.eventQ.length < 16) (hs : obj s Obj.StoreStage ≠ 2) :
    (queueEvent s e).tally.eventQ = s.tally.eventQ ++ [e] := by
  unfold queueEvent
  rw [if_neg (by rintro (h' | h') <;> [omega; exact hs h'])]

/-! ### Error flags (R481) -/

/-- Setting an error flag touches the words of R481, and may send the alarm telegram. -/
theorem only_setErr (s : State) (bit : Nat) : Only eventKeys eventParts s (setErr s bit) := by
  have h : Only eventKeys eventParts s (irq (objBit (objBit s Obj.ErrorFlags bit true) Obj.ErrorFlagsSticky bit true) 0) :=
    ((only_objBit _ s bit true rfl).trans (only_objBit _ _ bit true rfl)).trans (only_objBit _ _ 0 true rfl)
  unfold setErr
  exact ite_both (P := Only eventKeys eventParts s) (only_objBit _ s _ _ rfl)
    (ite_both (P := Only eventKeys eventParts s) (h.trans (only_alarmTelegram _)) h)

/-- Setting an error flag keeps the machine well formed. -/
theorem keeps_setErr (s : State) (bit : Nat) : Keeps s (setErr s bit) := by
  have h : Keeps s (irq (objBit (objBit s Obj.ErrorFlags bit true) Obj.ErrorFlagsSticky bit true) 0) :=
    ((keeps_objBit s _ _ _).trans (keeps_objBit _ _ _ _)).trans (keeps_irq _ _)
  unfold setErr
  exact ite_both (P := Keeps s) (keeps_objBit s _ _ _) (ite_both (P := Keeps s) (h.trans (keeps_alarmTelegram _)) h)

/-- Clearing an error flag touches `ErrorFlags` and `IrqStatus`. -/
theorem only_clrErr (s : State) (bit : Nat) : Only eventKeys eventParts s (clrErr s bit) := by
  unfold clrErr
  split
  · exact (only_objBit _ s bit false rfl).trans (only_objBit _ _ 0 true rfl)
  · exact Only.refl _ _ s

/-- Clearing an error flag keeps the machine well formed. -/
theorem keeps_clrErr (s : State) (bit : Nat) : Keeps s (clrErr s bit) := by
  unfold clrErr
  split
  · exact (keeps_objBit s _ _ _).trans (keeps_irq _ _)
  · exact Keeps.refl s

/-! ### Raising an event (Tables 14.6 and 14.7) -/

/-- An event's moves of the error flags touch the words of R481, and may send the alarm telegram. -/
theorem raiseAt_rel {P : State → Prop} (s : State) (code time : Nat) (payload : List Nat) (hq : P (queueEvent s ⟨code, time, payload⟩))
    (hs : ∀ t b, P t → P (setErr t b)) (hc : ∀ t b, P t → P (clrErr t b)) : P (raiseAt s code time payload) := by
  have move : ∀ t, P t → P (match errClearedBy t code with
      | some b => clrErr t b
      | none => t) := by
    intro t ht
    cases errClearedBy t code with
    | none => exact ht
    | some b => exact hc t b ht
  unfold raiseAt
  cases errSetBy code with
  | none => exact move _ hq
  | some b => exact move _ (hs _ b hq)

/-- Raising an event touches the words of R481 and R485, the tally part and the radio. -/
theorem only_raiseAt (s : State) (code time : Nat) (payload : List Nat) : Only eventKeys eventParts s (raiseAt s code time payload) :=
  raiseAt_rel s code time payload (only_queueEvent s _) (fun t b h => h.trans (only_setErr t b)) (fun t b h => h.trans (only_clrErr t b))

/-- Raising an event keeps the machine well formed. -/
theorem keeps_raiseAt (s : State) (code time : Nat) (payload : List Nat) : Keeps s (raiseAt s code time payload) :=
  raiseAt_rel s code time payload (keeps_queueEvent s _) (fun t b h => h.trans (keeps_setErr t b)) (fun t b h => h.trans (keeps_clrErr t b))

/-- Raising an event now. -/
theorem only_raise (s : State) (code : Nat) (payload : List Nat) : Only eventKeys eventParts s (raise s code payload) :=
  only_raiseAt s code _ payload

/-- Raising an event now keeps the machine well formed. -/
theorem keeps_raise (s : State) (code : Nat) (payload : List Nat) : Keeps s (raise s code payload) := keeps_raiseAt s code _ payload

/-- An event logged at most once per spell. -/
theorem only_raiseOnce (s : State) (key secs code : Nat) (payload : List Nat) :
    Only eventKeys eventParts s (raiseOnce s key secs code payload) := by
  have h (x : Radio) : Only eventKeys eventParts s (raise { s with radio := x } code payload) :=
    (only_radio eventKeys s x (by decide)).trans (only_raise _ _ _)
  unfold raiseOnce
  exact ite_both (P := Only eventKeys eventParts s) (h _) (Only.refl _ _ s)

/-- An event logged at most once per spell keeps the machine well formed. -/
theorem keeps_raiseOnce (s : State) (key secs code : Nat) (payload : List Nat) : Keeps s (raiseOnce s key secs code payload) := by
  have h (x : Radio) : Keeps s (raise { s with radio := x } code payload) :=
    (Keeps.of_eq (t := { s with radio := x }) rfl rfl rfl rfl).trans (keeps_raise _ _ _)
  unfold raiseOnce
  exact ite_both (P := Keeps s) (h _) (Keeps.refl s)

/-- A queued frame leaves the tally part alone. -/
@[simp] theorem enqueueEntry_tally (s : State) (cls peer control : Nat) (payload : List Byte) (chan : Option Nat) (train : Bool) :
    (enqueueEntry s cls peer control payload chan train).tally = s.tally := by
  unfold enqueueEntry
  split
  · rfl
  · exact startCclk_tally s

/-- An error flag's move leaves the tally part alone. -/
theorem setErr_tally (s : State) (bit : Nat) : (setErr s bit).tally = s.tally := by
  have h : ∀ u, (alarmTelegram u).tally = u.tally := fun u => by
    unfold alarmTelegram
    exact ite_both (P := fun t => t.tally = u.tally) (enqueueEntry_tally u _ _ _ _ _ _) rfl
  unfold setErr
  exact ite_both (P := fun t => t.tally = s.tally) rfl (ite_both (P := fun t => t.tally = s.tally) (h _) rfl)

/-- An error flag's clearing leaves the tally part alone. -/
theorem clrErr_tally (s : State) (bit : Nat) : (clrErr s bit).tally = s.tally := by
  unfold clrErr
  exact ite_both (P := fun t => t.tally = s.tally) rfl rfl

/-- What raising an event leaves in the tally part is what queueing it leaves. -/
theorem raiseAt_tally (s : State) (code time : Nat) (payload : List Nat) :
    (raiseAt s code time payload).tally = (queueEvent s ⟨code, time, payload⟩).tally :=
  raiseAt_rel (P := fun t => t.tally = (queueEvent s ⟨code, time, payload⟩).tally) s code time payload rfl
    (fun t b h => (setErr_tally t b).trans h) (fun t b h => (clrErr_tally t b).trans h)

/-- With room, a raised event is in the queue, behind the ones that waited. -/
theorem raiseAt_eventQ (s : State) (code time : Nat) (payload : List Nat) (h : s.tally.eventQ.length < 16) (hs : obj s Obj.StoreStage ≠ 2) :
    (raiseAt s code time payload).tally.eventQ = s.tally.eventQ ++ [⟨code, time, payload⟩] := by
  rw [raiseAt_tally, queueEvent_eventQ s _ h hs]

/-- With room, the raised event is queued in the words of the claims. -/
theorem queued_raiseAt (s : State) (code time : Nat) (payload : List Nat) (h : eventRoom s = true) :
    queued (raiseAt s code time payload) code time payload = true := by
  simp only [eventRoom, Bool.and_eq_true, decide_eq_true_eq] at h
  simp [queued, raiseAt_eventQ s code time payload (by omega) h.2]

/-! ### The journal queue (R159, R161, R194) -/

/-- Giving the journal a transaction touches the flash part, and starts CCLK (R111). -/
theorem only_journal (ks : List (Nat × Nat)) {ps : List Part} (s : State) (l : List (Nat × Nat)) (hm : Part.flash ∈ ps) (hc : Part.clk ∈ ps) :
    Only ks ps s (journal s l).2 := by
  unfold journal
  dsimp only
  split
  · exact Only.refl _ _ s
  · exact ((only_startCclk ks s hc).trans (only_flash ks _ _ hm)).trans (only_flash ks _ _ hm)

/-- Giving the journal a transaction keeps the machine well formed. -/
theorem keeps_journal (s : State) (l : List (Nat × Nat)) : Keeps s (journal s l).2 := by
  unfold journal
  dsimp only
  split
  · exact Keeps.refl s
  · exact (keeps_startCclk s).trans (Keeps.of_eq rfl rfl rfl rfl)

/-- Committing objects touches them, the flash part and the clock part. -/
theorem only_commitObjs {ks : List (Nat × Nat)} {ps : List Part} (s : State) (l : List (Nat × Nat)) (hk : ∀ e ∈ l, inKeys ks e.1 = true)
    (hm : Part.flash ∈ ps) (hc : Part.clk ∈ ps) : Only ks ps s (commitObjs s l).2 :=
  (only_setMany ps l s hk).trans (only_journal ks _ l hm hc)

/-- Committing objects keeps the machine well formed. -/
theorem keeps_commitObjs (s : State) (l : List (Nat × Nat)) : Keeps s (commitObjs s l).2 := (keeps_setMany s l).trans (keeps_journal _ l)

/-- Applying a block's pending set keeps the machine well formed (R140). -/
theorem keeps_applyPend (s : State) (b : Block) : Keeps s (applyPend s b) :=
  ((keeps_setMany s _).trans (keeps_journal _ _)).trans (Keeps.of_eq rfl rfl rfl rfl)

/-- Ending a session keeps the machine well formed: the route falls to L0 (R142, R146). -/
theorem keeps_endSession (s : State) (r : Route) : Keeps s (endSession s r) := by
  have h : Keeps s (setSession s r { session s r with level := 0, challenge := none }) := keeps_setSession s r _ (fun _ => Nat.zero_le 4)
  have g (u : State) : Keeps u (endFreeze u) :=
    ((Keeps.of_eq (t := { u with front := { u.front with freezeBy := none, freezeTicks := 0 } }) rfl rfl rfl rfl).trans
      (keeps_setObj _ _ _)).trans (keeps_raise _ _ _)
  unfold endSession
  exact ite_both (P := Keeps s) (h.trans (g _)) h

end Sys2Proof.Machine
end

