-- ==== Sys2Proof/Laws/Frames.lean ====
section
/-! SUPPORT. Bytes, CRC and the frames a host sends: lengths and ranges, and that a host's frame passes checks 2 and 3 of Table 05.6; the operations over
sessions, tags and routes that the access meanings start with. -/

namespace Sys2Proof.Machine

/-- As many bytes as asked for. -/
@[simp] theorem bytesOf_length (n v : Nat) : (bytesOf n v).length = n := by
  induction n generalizing v with
  | zero => rfl
  | succ k ih => simp [bytesOf, ih]

/-- One bit step of the CRC stays in 16 bits. -/
theorem crc16Bit_lt (c : Nat) : crc16Bit c < 65536 := by
  unfold crc16Bit
  split
  · exact Nat.xor_lt_two_pow (n := 16) (Nat.mod_lt _ (by decide)) (by decide)
  · exact Nat.mod_lt _ (by decide)

/-- The CRC of R158 is a 16-bit number. -/
theorem crc16_lt (l : List Byte) : crc16 l < 65536 := by
  have h : ∀ (l : List Byte) (c : Nat), c < 65536 → l.foldl (fun c b =>
      let x := Nat.xor c (b.toNat * 256)
      crc16Bit (crc16Bit (crc16Bit (crc16Bit (crc16Bit (crc16Bit (crc16Bit (crc16Bit x)))))))) c < 65536 := by
    intro l
    induction l with
    | nil => exact fun _ hc => hc
    | cons b t ih => exact fun c _ => ih _ (crc16Bit_lt _)
  exact h l 0xFFFF (by decide)

/-- A host's frame carries the CRC of its bytes (check 2). -/
theorem crcGood_hostFrame (op : Op) (tag key : Nat) (data : List Byte) : crcGood op (hostFrame op tag key data) = true := by
  simp only [crcGood, decide_eq_true_eq]
  exact (BitVec.toNat_ofNat _ _).trans (Nat.mod_eq_of_lt (crc16_lt _))

/-- A host's frame has the form of R165 (check 3) for tags 0 to 3 and at most 240 data bytes. -/
theorem formGood_hostFrame (op : Op) (tag key : Nat) (data : List Byte) (ht : tag ≤ 3) (hd : data.length ≤ 240) :
    formGood op (hostFrame op tag key data) = true := by
  have h1 : data.length % 256 = data.length := Nat.mod_eq_of_lt (by omega)
  have h2 : tag % 256 = tag := Nat.mod_eq_of_lt (by omega)
  simp [formGood, hostFrame, h1, h2, hd, ht]

/-- The key of a host's frame is the object's, for keys of 24 bits. -/
theorem hostFrame_key (op : Op) (tag key : Nat) (data : List Byte) (hk : key < 2 ^ 24) :
    (hostFrame op tag key data).index.toNat = key / 256 ∧ (hostFrame op tag key data).sub.toNat = key % 256 := by
  have h : key / 256 < 65536 := by omega
  exact ⟨(BitVec.toNat_ofNat _ _).trans (Nat.mod_eq_of_lt h), (BitVec.toNat_ofNat _ _).trans (Nat.mod_eq_of_lt (by omega))⟩

/-- The tag a host takes is one of the four of R157. -/
theorem nextTag_le (s : State) (r : Route) : nextTag s r ≤ 3 := by
  unfold nextTag
  cases h : [0, 1, 2, 3].find? (fun t => (mfind s.ports.tags (tagSlot r t)).isNone) with
  | none => simp
  | some t =>
    have hm := List.mem_of_find?_eq_some h
    simp at hm
    simp only [Option.getD_some]
    omega

/-! ### Sessions, tags and responses -/

/-- A response shown touches the port side. -/
theorem only_putOut (ks : List (Nat × Nat)) {ps : List Part} (s : State) (r : Route) (x : Resp) (hm : Part.ports ∈ ps) :
    Only ks ps s (putOut s r x) :=
  only_ports ks s _ hm

/-- A response shown keeps the machine well formed. -/
theorem keeps_putOut (s : State) (r : Route) (x : Resp) : Keeps s (putOut s r x) := Keeps.of_eq rfl rfl rfl rfl

/-- The edge that opens a transaction touches the port side (R121, R534). -/
theorem only_openTransaction (ks : List (Nat × Nat)) {ps : List Part} (s : State) (r : Route) (h : Bool) (hm : Part.ports ∈ ps) :
    Only ks ps s (openTransaction s r h) := by
  cases r <;> exact only_ports ks s _ hm

/-- The edge that opens a transaction keeps the machine well formed. -/
theorem keeps_openTransaction (s : State) (r : Route) (h : Bool) : Keeps s (openTransaction s r h) := by
  cases r <;> exact Keeps.of_eq rfl rfl rfl rfl

/-- A well-formed frame's arrival touches the port side (R146, R237). -/
theorem only_touch (ks : List (Nat × Nat)) {ps : List Part} (s : State) (r : Route) (f : Frame) (hm : Part.ports ∈ ps) :
    Only ks ps s (touch s r f) := by
  have h : Only ks ps s (setSession s r { session s r with lastTick := ticks s }) := only_ports ks s _ hm
  unfold touch
  dsimp only
  split
  · split
    · exact h.trans (only_ports ks _ _ hm)
    · exact h
  · exact h

/-- A well-formed frame's arrival keeps the machine well formed. -/
theorem keeps_touch (s : State) (r : Route) (f : Frame) : Keeps s (touch s r f) := by
  have h : Keeps s (setSession s r { session s r with lastTick := ticks s }) :=
    keeps_setSession s r _ (fun w => session_level_le s r w)
  unfold touch
  dsimp only
  split
  · split
    · exact h.trans (Keeps.of_eq rfl rfl rfl rfl)
    · exact h
  · exact h

/-- The session just stored. -/
@[simp] theorem session_setSession_self (s : State) (r : Route) (x : Session) : session (setSession s r x) r = x := by
  simp [session, mget_mset]

/-- Another route's session. -/
theorem session_setSession_of_ne (s : State) {r q : Route} (x : Session) (h : q.num ≠ r.num) : session (setSession s r x) q = session s q := by
  simp [session, mget_mset, h]

/-- Routes are told apart by their numbers (R144). -/
theorem Route.num_inj {r q : Route} (h : r.num = q.num) : r = q := by
  cases r <;> cases q <;> simp_all [Route.num] <;> omega

end Sys2Proof.Machine
end

