-- ==== Sys2Proof/Laws/Step.lean ====
section
/-! SUPPORT. One step, by its cases. -/

namespace Sys2Proof.Machine

/-- A step that answers a next state is the edge of an empty queue or the front command's. -/
theorem step_cases {s t : State} (h : step s = .next t) :
    (s.pending = [] ∧ t = lfEdge s) ∨ ∃ c rest, s.pending = c :: rest ∧ exec c { s with pending := rest } = .next t := by
  unfold step at h
  split at h
  · rename_i hp
    exact .inl ⟨hp, (Host.Outcome.next.inj h).symm⟩
  · rename_i c rest hp
    exact .inr ⟨c, rest, hp, h⟩

/-- The image and the session levels do not see the queue. -/
theorem wf_pending (s : State) (q : List Instr) :
    ({ s with pending := q } : State).imageWf = s.imageWf ∧ ({ s with pending := q } : State).levelsWf = s.levelsWf := ⟨rfl, rfl⟩

/-- Where the edge and every command keep the machine well formed, so does every step. -/
theorem step_wf (he : ∀ s, Keeps s (lfEdge s)) (hc : ∀ c s t, exec c s = .next t → Keeps s t) {s t : State} (h : step s = .next t) :
    (s.imageWf = true → t.imageWf = true) ∧ (s.levelsWf = true → t.levelsWf = true) := by
  rcases step_cases h with ⟨_, rfl⟩ | ⟨c, rest, _, hx⟩
  · exact (he s).2.2
  · exact (hc c _ t hx).2.2

/-- No word of the table spells a command, so placing one changes nothing. -/
theorem withFetchWord_eq (s : State) (nbits w : Nat) : s.withFetchWord nbits w = s := rfl

end Sys2Proof.Machine
end

