-- ==== Sys2Proof/Machine/Pads.lean ====
section
/-! DEFINITION. The pads of Table 02.2 and the state each is in (R37, R47, R59, R60, R292, R565). -/

namespace Sys2Proof.Machine

/-- State of a pad (the abbreviations of Table 02.2). `act`: it serves the function of its owning chapter; `low`: driven low; `ut`: U; `supply`: — . -/
inductive PadState where
  | act | z | pu | pd | low | high | ut | on | off | na | supply
deriving DecidableEq, Repr

/-- Supply and ground pads. -/
def supplyPads : List Nat := [4, 9, 14, 17, 25, 32, 41, 47, 57, 58, 59, 61, 64, 66, 69, 72]

/-- Pads supplied from VIO. -/
def vioPads : List Nat := [34, 35, 36, 37, 38, 39, 40, 42, 43, 44, 45, 46, 48, 55, 70, 71]

/-- Terminals of the paths, UT0A to UT3B. -/
def utPads : List Nat := [5, 6, 7, 8, 10, 11, 12, 13]

/-- Column Reset of Table 02.2. -/
def resetPad (n : Nat) : PadState :=
  if supplyPads.contains n then .supply
  else if utPads.contains n then .ut
  else if [1, 2, 3, 16, 65].contains n then .off
  else if [15, 60].contains n then .on
  else if [18, 48, 70, 71].contains n then .low
  else if [34, 35, 36, 37, 56].contains n then .pd
  else if [43, 55].contains n then .pu
  else if [50, 51, 53, 54].contains n then .na
  else if [52, 62, 63].contains n then .act
  else .z

/-- Columns Transport and Readout of Table 02.2; RW is the receive window, in transport mode only (R67). -/
def idlePad (s : State) (n : Nat) : PadState :=
  if [42, 44, 45, 50, 51, 53, 54].contains n then .act
  else if n = 43 then .pu
  else if n = 65 then (if s.radio.window then .on else .off)
  else if n = 68 then (if s.radio.window then .act else .z)
  else resetPad n

/-- The terminal that drives or receives now, as its path and whether it is UTpA. -/
def utPad (s : State) (n : Nat) : PadState :=
  let i := utPads.idxOf n
  let e := some (i / 2, decide (i % 2 = 0))
  if utDriven s = e ∨ utReceiving s = e then .act else .ut

/-- Does the radio receive (R565)? -/
def receiving (s : State) : Bool :=
  s.radio.event.isSome || s.radio.glancing || s.radio.scan.isSome || lbtListening s || s.radio.window || s.radio.compatWindow || s.radio.beaconOpen.isSome

/-- Full mode: each pad serves its function (R37); where State knows its level, this is it (log entry 101). SDO is Z, for nCS is high between transactions. -/
def fullPad (s : State) (n : Nat) : PadState :=
  if utPads.contains n then utPad s n
  else if n = 1 ∨ n = 2 ∨ n = 3 then (if s.pads.vdrv then .on else .off)
  else if n = 16 ∨ 26 ≤ n ∧ n ≤ 31 then (if elecRuns s then (if n = 16 then .on else .act) else resetPad n)
  else if n = 18 then (if s.temp.conv.isSome then .act else .low)
  else if 19 ≤ n ∧ n ≤ 23 then (if s.temp.conv.isSome then .act else .z)
  else if n = 24 then (if s.pads.tcomLow then .low else .z)
  else if 33 ≤ n ∧ n ≤ 37 then .act
  else if 38 ≤ n ∧ n ≤ 40 then (if mget s.pads.po (n - 37) false then .low else .z)
  else if n = 46 then .z
  else if n = 48 then (if s.lm.running then .act else .low)
  else if n = 49 then (if s.lm.running then .act else .z)
  else if n = 50 ∨ n = 51 then (if s.lm.running then .na else .act)
  else if n = 65 then (if s.radio.air.isEmpty && !receiving s then .off else .on)
  else if n = 67 then (if s.radio.air.isEmpty then .z else .act)
  else if n = 68 then (if !s.radio.air.isEmpty then .low else if receiving s then .act else .z)
  else if n = 70 then (if s.pads.rfsw then .high else .low)
  else if n = 71 then (if s.pads.paen then .high else .low)
  else idlePad s n

/-- State of pad n (Table 02.2): in full mode by its function, in transport and readout mode by their columns, and by column Reset while the core is down, in
chip reset and under TEST (R60). VIO-supplied pads are Z while VIO is out; nIRQ is driven or Z (R482). -/
def padState (s : State) (n : Nat) : PadState :=
  if vioPads.contains n && !s.ports.vioOk then .z
  else if !coreUp s then resetPad n
  else if n = 42 then (if nIrqLow s then .low else .z)
  else if isFull s then fullPad s n
  else idlePad s n

end Sys2Proof.Machine
end

