-- ==== Sys2Proof/WellFormed.lean ====
section
/-! DEFINITION. Which operands a command can carry on the real part, beyond what their types say. -/

namespace Sys2Proof

/-- A Grove route names a short id 0 to 255, or 256 for the EN 13757-4 peer of R605. -/
def Route.wf (r : Route) : Bool :=
  match r with
  | .grove p => decide (p ≤ 256)
  | _ => true

/-- An access frame carries at most 250 data bytes (Table 05.3), and a reserved opcode nibble is 0x0 or 0xA to 0xF (R165). -/
def Frame.wf (f : Frame) : Bool :=
  decide (f.data.length ≤ 250) && (match f.reservedOp with
    | none => true
    | some c => decide (c = 0) || decide (10 ≤ c.toNat))

/-- A MAC frame carries at most 255 payload bytes and an 8-byte or 4-byte MIC, or none (Table 17.4). -/
def AirFrame.wf (f : AirFrame) : Bool := decide (f.payload.length ≤ 255) && decide (f.mic.length ≤ 8)

/-- Rise times are given for the four paths (R319). -/
def riseWf (l : List RiseTimes) : Bool := decide (l.length = 4)

/-- Samples of the electricity modulators are signed 24-bit codes, full scale ±8 388 607 (chapter 12). -/
def ElecSample.wf (x : ElecSample) : Bool := [x.v, x.a1, x.a16, x.b1, x.b16].all (fun c => decide (c.natAbs ≤ 8388607))

/-- The command is one the part can receive: its route exists, its frame fits, and an operand that names a unit, a tag, a role, a peer or an
inventory mask lies in the range the manual gives (Tables 05.3, 06.2, 11.2 and 16.2). -/
def Instr.wf (i : Instr) : Bool :=
  match i with
  | .read r f _ | .write r f _ | .readNext r f _ | .beginSeq r f | .commit r f _ | .abort r f | .execObj r f _ | .status r f | .nop r f
  | .lockStage r _ f | .lastCommit r _ f _ => r.wf && f.wf
  | .objectWrite r _ _ data => r.wf && decide (data.length ≤ 250)
  | .shadowDiscard r _ => r.wf
  | .heldResponseReady r tag => r.wf && decide (tag < 4)
  | .authChallenge r | .authResponse r _ _ | .authLockoutEnd r | .authLogout r | .sessionIdleExpiry r | .levelKeyWrite r _ _ | .seal r | .sealBreak r => r.wf
  | .rawProgram unit word _ => decide (unit < 204) && decide (word < 512)
  | .portReset _ _ | .portResetRelease _ _ | .chipReset | .chipResetRelease _ _ | .vioLoss _ _ | .vioRestored | .batteryInsertion _ _
  | .vbatValidInReadout _ | .startFromBusOrField _ _ _ _ | .brownOut | .batteryLow | .gladeStop | .busValid | .busLoss => true
  | .leaveTransport r | .enterTransport r => r.wf
  | .transportWindow => true
  | .batteryReplaced r _ => r.wf
  | .budgetHour | .budgetSecond _ _ | .vcoreCanaryTest _ | .lfSourceSwitch _ | .compensationTick _ _ _ | .lfSourceReturn _ => true
  | .lfSourceReset r => r.wf
  | .hfCrystalStable | .hfStartFail | .cclkStop | .hfMeasurementDone _ _ => true
  | .noonPass rise => riseWf rise
  | .storeRequest _ _ _ _ | .storeGrant | .storePreempt | .storeTransferEnd | .arbWatchdog | .arbLongWait _ => true
  | .lockExpired r | .arbiterFreeze r | .arbiterQuiesce r | .arbiterRun r => r.wf
  | .quiesceToFreeze | .freezeExpired => true
  | .arbiterCommit r => r.wf
  | .arbConfigApplied => true
  | .arbiterStatsClear r => r.wf
  | .journalWorkTaken | .recordProgrammed _ | .erasePulseEnd _ | .timerGrant _ | .tdcCalibrationEnd _ _ _ _ | .tdcHit _ _ | .tdcOverflow
  | .timerGrantEnd _ _ | .timerPreempt | .finMeasurementStart | .finNoSignal => true
  | .tdcPairRetest r | .tdcSnapshotArm r _ => r.wf
  | .cycleStartTick _ _ | .overrunCleared | .shotLaunch | .cycleResults _ | .postponedLatchTaken | .cycleSkipResync _ _ | .pathShort _ | .pathFailed _
  | .pathRecovered _ | .pathLowSignal _ | .templateCaptureFailed => true
  | .acousticCommit r | .templateCapture r | .sampleCaptureArm r _ => r.wf
  | .pathCheck r rise => r.wf && riseWf rise
  | .flowCommit r | .zeroCalibrate r => r.wf
  | .zeroCalibrated | .zeroAdapting | .reverseFlow | .reverseCleared | .sosMismatch | .conversionStart | .conversionEnd => true
  | .standbyReleased role | .sensorDisagree role => decide (1 ≤ role ∧ role ≤ 3)
  | .sensorRecovered _ | .portStale _ => true
  | .temperatureCommit r | .heatCommit r => r.wf
  | .duskSave _ xs | .lineCycleEnd _ _ xs | .blockClose xs | .gainSwitch _ _ xs => xs.all ElecSample.wf
  | .currentOverload x => x.wf
  | .voltageExcursionStart _ | .voltageExcursionEnd _ _ _ | .noLine
  | .lineRestored => true
  | .elecCommit r | .copReset r => r.wf
  | .pulseEdgeCapture _ _ | .pulseDebounceEnd _ _ _ | .pulseHoldOffEnd _ | .wireCutCheck _ _ | .wireCutSample _ _ | .wireCutMaskEnd _ _
  | .pulseOutEnd _ | .pulseOutSpaceEnd _ => true
  | .pulseCommit r | .rtcTimeSet r _ | .calendarSet r _ => r.wf
  | .clockStep => true
  | .rtcTimeAdjust r _ => r.wf
  | .slewEnd => true
  | .localOffsetWrite r _ => r.wf
  | .offsetChanged | .weekdayAdvance => true
  | .weekdayWrite r _ => r.wf
  | .alarmFire _ => true
  | .alarmFlagsClear r _ => r.wf
  | .periodicWake _ _ => true
  | .periodicWakeWrite r _ => r.wf
  | .backupBytesWrite r data => r.wf && decide (data.length ≤ 250)
  | .calendarEnd | .disciplineLost => true
  | .latchNow r => r.wf
  | .billingBoundary | .tariffSwitchSecond | .intervalEnd => true
  | .tariffCommit r | .errorFlagsStickyClear r _ | .irqStatusClear r _ => r.wf
  | .marginSummaryUpdate | .lineBreak | .lysefIdle _ => true
  | .lysefAccess a h o f _ _ => decide ((a ++ h ++ o ++ f).length ≤ 2048)
  | .searchStart a h m s k x => decide ((a ++ h ++ m ++ s ++ k ++ x).length ≤ 2048)
  | .echo a h x k | .time a h x k => decide ((a ++ h ++ x ++ k).length ≤ 2048)
  | .assign a h x y k => decide ((a ++ h ++ x ++ y ++ k).length ≤ 2048)
  | .lysefShortAddressWrite r _ | .lysefFullSearch r | .lysefNewSearch r => r.wf
  | .lysefSearchPass _ | .lysefMasterEcho _ | .lysefMasterAssign _ | .lysefNewPoll | .lysefTimeBroadcast | .lysefBreakDeferExpiry => true
  | .lysefMasterSend r data _ => r.wf && decide (data.length ≤ 250)
  | .lysefDeviceLost _ | .lysefBusFault _ | .lysefFaultRetry | .spiTailFrame => true
  | .inventory _ _ maskLen _ => decide (maskLen ≤ 64)
  | .stayQuiet _ | .select _ | .resetToReady _ | .getSystemInformation _ => true
  | .vicinityAccess _ _ _ _ f _ _ => f.wf
  | .radioCommit r => r.wf
  | .radioCommitApply => true
  | .connectionEvent peer | .connectionEventEnd peer => decide (peer ≤ 256)
  | .endOfTransmit => true
  | .poll f | .ack f | .dataAccessRequest f | .dataAccessResponse f | .dataTelegram f | .dataGroveTime f | .dataMailbox f => f.wf
  | .linkLost peer => decide (peer ≤ 256)
  | .glance _ | .wake _ _ _ | .dawnWakeReceive => true
  | .dawnTrain peer => decide (peer ≤ 256)
  | .install _ _ _ | .periodicTelegram | .bucketChange | .frameAged | .lbtListenEnd _ | .lbtBackoffEnd | .pllLockFail | .pllRestEnd | .compatTelegram => true
  | .compatSndUd _ f => f.wf
  | .beaconInterval => true
  | .beacon _ f | .joinReq _ f | .joinRsp f => f.wf
  | .scanStart | .scanEnd => true
  | .stemAdmit r _ _ _ | .stemRemove r _ | .groveMapUpdate r _ _ => r.wf
  | .mapUpdated => true
  | .connUpdate r _ _ _ => r.wf
  | .groveSend r data | .mailboxOut r data => r.wf && decide (data.length ≤ 250)
  | .mailboxPop r | .transducerReplaceBegin r _ | .transducerReplaceComplete r _ _ | .transducerReplaceCancel r _ => r.wf
  | .sensorReplace r data => r.wf && decide (data.length ≤ 250)
  | .lfStartTestEnd _ | .vbkValid | .finGateEnd => true
  | .lysefMasterEnable r _ | .lysefCellRateChange r _ => r.wf
  | .groveSendTimeout => true

end Sys2Proof
end

