-- ==== Sys2Proof/Tests/Slice0.lean ====
section
/-! SUPPORT. The author's tests: an ill-formed command per check of `Instr.wf`, the worked examples of the manual, and for every statement with
hypotheses a witness per clause: a concrete state and operands that meet all its hypotheses together. -/

open Sys2Proof Sys2Proof.Machine

namespace Sys2Proof.Tests

set_option Elab.async false

/-! ### States the tests start from -/

/-- A session at a level, its last frame 4 096 000 ticks after the start of the count. -/
def sess (level : Nat) : Session := ⟨level, none, 4096000, [], false⟩

/-- A connection of a pair: 30 s interval, map of the 868 MHz defaults. -/
def conn : Conn := ⟨7680, 0, 4, 1, 2, 6, 0x00FC000000000000, 0, none⟩

/-- A neighbour with that connection. -/
def peer (identity : Nat) : Nbr := { Nbr.fresh identity 77 with heard := 4096000, conn := some conn }

/-- Full mode with every source, each route's session at L4, both counts running: 125 s on the trimmed count, 2024-01-01 on the binary one. -/
def full : State := { State.reset with
  pw := { State.reset.pw with mode := .full, transportSet := false, bus := true, field := true, vbk := true }
  rtc := { State.reset.rtc with bin := 757382400 * 2 ^ 48, tk := 125 * 2 ^ 48, valid := true }
  ports := { State.reset.ports with sessions := [(1, sess 4), (2, sess 4), (3, sess 4), (4, sess 4), (9, sess 4)], inReset := [(1, false), (2, false), (3, false)], vic := .ready }
  ly := { State.reset.ly with tracker := true, steady := true }
  tdc := { State.reset.tdc with calTick := 4096000, cals := [(0, ⟨0, 3000, 1, true⟩), (1, ⟨0, 3000, 1, true⟩)] }
  radio := { State.reset.radio with grove := 5, nbrs := [(0, peer 9), (5, peer 10)], stems := [(5, ⟨10, 77, false, 1, 0, [], none⟩)] } }

/-- The same as a stem of grove 5, short id 3; as the crown of grove 6. -/
def stem : State := setMany full [(Obj.GroveRole, 1), (Obj.GroveShortId, 3)]
def crown : State := setMany full [(Obj.GroveRole, 2), (Obj.GroveId, 6)]

/-- The row of a key. -/
def rowAt (k : Nat) : ObjDef := (rowOf k).getD ⟨0, 0, 0, 0, false, .r, false, 0, .any, none, .all, [], []⟩

/-- A host's frame with flags, CRC in place. -/
def flagged (flags : BitVec 4) (op : Op) (tag key : Nat) (data : List Byte) : Frame :=
  let f : Frame := { hostFrame op tag key data with flags := flags }
  { f with crc := BitVec.ofNat 16 (crc16 (frameBytes op f)) }

/-- A sealed frame on air (R571, R572). -/
def aired (key identity : Nat) (control : Byte) (grove : BitVec 16) (dst src : Byte) (counter : BitVec 32) (pay : List Byte) : AirFrame :=
  let x := Aes.ccmSeal key (nonceOf identity counter.toNat control.toNat)
    (nums (macHeader control.toNat grove.toNat dst.toNat src.toNat counter.toNat 0x80)) (nums pay)
  ⟨control, grove, dst, src, counter, 0x80, bytes x.1, bytes x.2, true, -80⟩

/-- A request that waits at the store front. -/
def waits (q : Requester) (stamp : Nat) : Waiting := ⟨q, stamp, 0, 1, false, .setKey Obj.LongWaitThreshold 20, false⟩

/-- `full` with a part of it changed. -/
def inFlash (s : State) (f : Flash → Flash) : State := { s with flash := f s.flash }
def inTdc (s : State) (f : Tdc → Tdc) : State := { s with tdc := f s.tdc }
def inElec (s : State) (f : Elec → Elec) : State := { s with elec := f s.elec }
def inRadio (s : State) (f : Radio → Radio) : State := { s with radio := f s.radio }

/-- The Lysef master running, with its state changed. -/
def inMaster (s : State) (f : LyMaster → LyMaster) : State := { s with lm := { f s.lm with running := true } }

/-- The SPI host holds an open sequence. -/
def spiSeq (l : List Staged) : State := { full with ports := { full.ports with seqs := [(1, ⟨.spi, l, 0⟩)] } }

/-- Two staged WRITEs. -/
def staged2 : List Staged := [⟨false, Obj.LongWaitThreshold, [0, 20]⟩, ⟨false, Obj.UsableFraction, [2, 0]⟩]

/-- The SPI host locked out on its third failure, 100 ms after the first, now 10⁶ s of uptime. -/
def lockedOut : State := { full with
  rtc := { full.rtc with tk := 10 ^ 6 * 2 ^ 48 }
  ports := { full.ports with sessions := [(1, ⟨0, none, 0, [(2, 100), (2, 1738), (2, 3377)], true⟩)] } }

/-- All three ports in reset. -/
def resetting : State := { full with ports := { full.ports with inReset := [(1, true), (2, true), (3, true)] } }

/-- A tick that is a multiple of every `ConversionInterval`. -/
def evenTick : State := { full with rtc := { full.rtc with tk := 3600 * 2 ^ 48 } }

/-- A fresh grant with hits and an LF edge stamp. -/
def grantOf (q : TimerReq) (hits : List Hit) (stamp : Option LfStamp) : Grant := ⟨q, stamp, hits, false, false, [], none, 8⟩

/-- What a command leaves of a state, and what an LF edge leaves; the state itself where it stops. -/
def run (c : Instr) (s : State) : State := match exec c s with
  | .next t => t
  | _ => s
def edge (s : State) : State := match step s with
  | .next t => t
  | _ => s

/-- Which outcome a command has. -/
def isNext (o : Host.Outcome State Fault Refusal) : Bool := match o with
  | .next _ => true
  | _ => false
def isFactory (o : Host.Outcome State Fault Refusal) : Bool := match o with
  | .refused .factoryUndescribed => true
  | _ => false

theorem run_eq {c : Instr} {s : State} (h : isNext (exec c s) = true) : exec c s = .next (run c s) := by
  unfold run; cases hc : exec c s <;> simp_all [isNext]

theorem edge_eq {s : State} (h : isNext (step s) = true) : step s = .next (edge s) := by
  unfold edge; cases hc : step s <;> simp_all [isNext]

theorem factory_eq {c : Instr} {s : State} (h : isFactory (exec c s) = true) : exec c s = .refused .factoryUndescribed := by
  cases hc : exec c s with
  | refused x => cases x <;> simp_all [isFactory]
  | _ => simp_all [isFactory]

/-- A Lysef cell of 104 µs: its mark is twice as long as its space for a 1, half as long for a 0. -/
def bitCell (b : Bool) : LyCell := if b then ⟨34722, 69444⟩ else ⟨69444, 34722⟩

/-- The cells of bytes on the bus, the sync cell not among them. -/
def lyCells (b : List Byte) : List LyCell := (bitsOfBytes b).map bitCell

/-- The bytes of an access frame with its CRC. -/
def wireBytes (op : Op) (f : Frame) : List Byte := frameBytes op f ++ bytesOf 2 f.crc.toNat

/-- A read cell in which a slave sinks 30 mA over the baseline (LSNS at 100 mV per A), and one in which none does. -/
def readCell (zero : Bool) : LsnsRead := if zero then ⟨500, 1000000⟩ else ⟨500, 500⟩

/-- What the answers to a search show of one device's key; the n read cells of a number. -/
def keyCells (key : Nat) : List LsnsRead := (List.range 64).flatMap (fun i => [readCell (!bitOf key (63 - i)), readCell (bitOf key (63 - i))])
def numCells (n v : Nat) : List LsnsRead := (List.range n).map (fun i => readCell (!bitOf v (n - 1 - i)))

/-- No faults found in the flash. -/
def clean : FlashFaults := ⟨[], [], false, [], [], [], [], [], [], []⟩

/-- A JOIN_ACCEPT's payload up to its MIC, with an answer code: the map of `conn`, leaf 5, time 345. -/
def joinHead (s : State) (code : Byte) : List Byte :=
  bytesOf 8 (obj s Obj.DeviceIdentity) ++ [code, 7] ++ bytesOf 4 7680 ++ bytesOf 4 100 ++
    bytesOf 8 0x00FC000000000000 ++ [0, 1, 2, 6, 5] ++ bytesOf 8 345

/-! ### Well-formedness: one ill-formed command per check -/

theorem test_wf_route : (Instr.status (.grove 257) (hostFrame .status 0 0 [])).wf = false := by decide +kernel
theorem test_wf_frame : (Instr.write .spi (hostFrame .write 0 Obj.LongWaitThreshold (List.replicate 251 0)) false).wf = false := by decide +kernel
theorem test_wf_airPayload : (Instr.dataMailbox ⟨0x4C, 6, 3, 0, 1, 0x80, List.replicate 256 0, [], true, -80⟩).wf = false := by decide +kernel
theorem test_wf_airMic : (Instr.dataMailbox ⟨0x4C, 6, 3, 0, 1, 0x80, [], List.replicate 9 0, true, -80⟩).wf = false := by decide +kernel
theorem test_wf_rise : (Instr.noonPass []).wf = false := by decide +kernel
theorem test_wf_unit : (Instr.rawProgram 204 0 0).wf = false := by decide +kernel
theorem test_wf_word : (Instr.rawProgram 203 512 0).wf = false := by decide +kernel
theorem test_wf_tag : (Instr.heldResponseReady .spi 4).wf = false := by decide +kernel
theorem test_wf_mask : (Instr.inventory false none 65 0).wf = false := by decide +kernel
theorem test_wf_role : (Instr.sensorDisagree 4).wf = false ∧ (Instr.standbyReleased 0).wf = false := by decide +kernel
theorem test_wf_peer : (Instr.linkLost 257).wf = false := by decide +kernel
theorem test_wf_data : (Instr.groveSend .spi (List.replicate 251 0)).wf = false := by decide +kernel

/-- A well-formed command passes. -/
theorem test_wf_good : (Instr.read (.grove 256) (hostFrame .read 0 Obj.OptionFuses []) false).wf = true ∧ (Instr.rawProgram 203 511 0).wf = true := by
  decide +kernel

/-! ### The worked examples of the manual -/

/-- The bytes a route was answered last. -/
def lastBytes (t : State) (r : Route) : Option (List Byte) := (mfind t.ports.out r.num).map respBytes

/-- What a command leaves of a state, none where it stops. -/
def after {α : Type} (c : Instr) (s : State) (f : State → α) : Option α :=
  match exec c s with
  | .next t => some (f t)
  | _ => none

/-- The check value of CRC-16/CCITT-FALSE, "123456789" (R158). -/
theorem test_crc_check : crc16 [0x31, 0x32, 0x33, 0x34, 0x35, 0x36, 0x37, 0x38, 0x39] = 0x29B1 := by decide +kernel

/-- Chapter 05, reading `OptionFuses`: the request is 10 00 10 02 00 00 61 53. -/
theorem test_optionFuses_request :
    frameBytes .read (hostFrame .read 0 Obj.OptionFuses []) = [0x10, 0x00, 0x10, 0x02, 0x00, 0x00] ∧
    (hostFrame .read 0 Obj.OptionFuses []).crc = 0x6153 := by decide +kernel

/-- Chapter 05, reading `OptionFuses`: the response on an XQ40-LE. -/
theorem test_read_optionFuses :
    after (.read .spi (hostFrame .read 0 Obj.OptionFuses []) false) full (lastBytes · .spi)
      = some (some [0x00, 0x00, 0x10, 0x02, 0x00, 0x04, 0x00, 0x00, 0x00, 0x1D, 0xF6, 0xF4]) := by decide +kernel

/-- Table 16.5, step 3: PENDING for tag 0. -/
theorem test_read_pending :
    after (.read .spi (hostFrame .read 0 Obj.OptionFuses []) true) full (lastBytes · .spi)
      = some (some [0x01, 0x00, 0x10, 0x02, 0x00, 0x00, 0x3E, 0x77]) := by decide +kernel

/-- Table 16.5, steps 6 and 8: the NOP 90 01 00 00 00 00 6A E5 and its response. -/
theorem test_nop :
    after (.nop .spi ⟨0, 1, 0, 0, 0, [], 0x6AE5, none, true, false⟩) full (lastBytes · .spi)
      = some (some [0x00, 0x01, 0x00, 0x00, 0x00, 0x00, 0xA4, 0x41]) := by decide +kernel

/-- Chapter 08, from vernier counts to a stamp: F = 0x760C, coarse 2445, result word 0x80012CA0098D760C. -/
theorem test_vernier :
    (hitResult ⟨12502, 25006, 4, true⟩ 0 2447 4810).coarse = 2445 ∧ (hitResult ⟨12502, 25006, 4, true⟩ 0 2447 4810).fraction = 0x760C ∧
    resultWord (0, hitResult ⟨12502, 25006, 4, true⟩ 0 2447 4810) = 0x80012CA0098D760C := by decide +kernel

/-- Chapter 04, compensation at −10 °C: +4214. -/
theorem test_parabola : parabola (-1000) 2460 (-352) = 4214 := by decide +kernel

/-- Chapter 03, budget after three years: 11 797 nA. -/
theorem test_allowedCurrent :
    allowedCurrent (setMany { full with rtc := { full.rtc with bin := 1096 * 86400 * 2 ^ 48 } }
      [(Obj.BatteryCapacity, 2400), (Obj.UsableFraction, 650), (Obj.TargetLifetime, 5844), (Obj.BatteryInstalledTime, 0), (Obj.ChargeUsed, 215700000)])
      = 11797 := by decide +kernel

/-- R83 and R84: 2.13 V for 33 payload words on 22 µF (rounded up to whole mV). -/
theorem test_reserve : requiredMv 22 33 = 2129 := by decide +kernel

/-- Chapter 09: D and the actual frequency of 1 MHz, 2 MHz and 150 kHz. -/
theorem test_dividers : dividerOf 1000000 = 8 ∧ dividerOf 2000000 = 4 ∧ dividerOf 150000 = 53 ∧ actualFrequency 150000 = 150943 := by decide +kernel

/-- Chapter 10, from transit times to a volume increment. -/
theorem test_flow :
    rawFlow 314159 40871 1012400 = 12999208 ∧ toMlh 12999208 = 46797 ∧ segError [(25000, 1800), (100000, 600)] 46797 = 1451 ∧
    toMlh 13018070 = 46865 ∧ increment 13018070 32768 = 13018070 := by decide +kernel

/-- Chapter 12, one electricity block: 991 005 536 µJ and 991 008 mW at `HfCorrection` +2.5 ppm. -/
theorem test_block :
    blockEnergy (222932231448000 * 2 ^ 48) 59664250 298023224 9999975000 = 991005536 ∧ blockPower 991005536 4000 9999975000 = 991008 := by decide +kernel

/-- Chapter 12: 25.300 kWh of heat against 7.150 kWh of electricity is stored as 231 897. -/
theorem test_cop :
    obj (copAtLatch { setMany full [(Obj.HeatEnergy, 25300000), (Obj.ElecEnergyImport 1, 7150000)] with
      elec := { full.elec with heat0 := 0 } }) Obj.CopCumulative = 231897 := by decide +kernel

/-- Chapter 13, calendar from binary time. -/
theorem test_calendar :
    calendarBytes { setMany full [(Obj.LocalOffset, 4)] with rtc := { full.rtc with bin := 800000000 * 2 ^ 48 } }
      = [0x20, 0x25, 0x05, 0x08, 0x07, 0x13, 0x20] := by decide +kernel

/-- Chapter 13, one loop step: a rate error of 136 takes `RtcLoopTrim` from +25 to −43. -/
theorem test_loopStep :
    objI 4 (rateError (setI 4 full Obj.RtcLoopTrim 25) 136) Obj.RtcLoopTrim = -43 ∧
    objI 4 (rateError (setI 4 full Obj.RtcLoopTrim 25) 136) Obj.LastRateError = 136 := by decide +kernel

/-- Chapter 14, set forward across a month end: the four boundaries in their order, from 2025-02-27 to 2025-03-02 08:00 local. -/
theorem test_boundaries :
    (dueBoundaries (setMany full [(Obj.DailyBoundaryTime, 0), (Obj.BillingDay, 1), (Obj.LastBoundaryId 1, 0x100023E6),
      (Obj.LastBoundaryId 2, 0x2000012E)]) (9189 * 86400 + 8 * 3600) (9192 * 86400 + 8 * 3600)).1.map (·.2)
      = [0x100023E7, 0x100023E8, 0x2000012F, 0x100023E9] := by decide +kernel

/-- Chapter 15, the ACCESS header to short address 0x05. -/
theorem test_hck : hckOf 5 1 = 0xA1 := by decide +kernel

/-- Chapter 17, one telegram event of a stem: channel 55 and 130 nAh. -/
theorem test_radio : hopChannel 0x00FC000000000000 23 17 1234 = 55 ∧ frameCharge 13 14 = 130 := by decide +kernel

/-- No word spells a command: the table gives no row a bit. -/
theorem test_no_words : decodeTableWord 16 0x1000 = none ∧ State.reset.withFetchWord 16 0x1000 = State.reset := by decide +kernel

/-- Chapter 06, one commit under field power: the DATA payload's entries, and V_req 1.927 V for its 3 words. -/
theorem test_dataBytes :
    dataBytes [(Obj.VduskThreshold, 2100), (Obj.VbatLowThreshold, 2300), (Obj.BudgetBucketMax, 5000000)]
      = [0x11, 0x03, 0x00, 0x02, 0x08, 0x34, 0x11, 0x04, 0x00, 0x02, 0x08, 0xFC, 0x11, 0x38, 0x00, 0x04, 0x00, 0x4C, 0x4B, 0x40] ∧
    requiredMv 22 3 = 1927 := by decide +kernel

/-- AES-128 on the vector of FIPS 197 appendix C.1, from outside the manual (log entry 10). -/
theorem test_aes :
    Aes.num (Aes.encrypt (Aes.block16 0x000102030405060708090A0B0C0D0E0F) (Aes.block16 0x00112233445566778899AABBCCDDEEFF))
      = 0x69C4E0D86A7B0430D8CDB78070B4C55A := by decide +kernel

/-- AES-128 CMAC on the 16-byte vector of RFC 4493, from outside the manual (log entry 10). -/
theorem test_cmac :
    Aes.cmac 0x2B7E151628AED2A6ABF7158809CF4F3C (nums (bytesOf 16 0x6BC1BEE22E409F96E93D7E117393172A))
      = 0x070A16B46B4D4144F79BDD9DD04A287C := by decide +kernel

/-- Chapter 11, the water coefficient of 60.000 °C and 40.000 °C with the flow sensor at 40 °C: 4 149 204 J/(m³·K). -/
theorem test_waterCoefficient : waterCoefficient 60000 40000 40000 = 4149204 := by
  simp [waterCoefficient, tableAt, waterDensity, waterEnthalpy, roundDiv]

/-- R342: the printed entries of the speed of sound in water. -/
theorem test_waterSound : waterSound 0 = 1402400 ∧ waterSound 20 = 1482300 ∧ waterSound 50 = 1542500 := by decide +kernel

/-- R268 and Table 08.5: a second hit on a pair is dropped at 57 T and taken at 57.6 T (1.8 µs) from the first. -/
theorem test_pairBusy :
    pairBusy { grantOf .sequencer [] none with lastOn := [(0, 1000 * 65536)] } 0 (1057 * 65536) = true ∧
    pairBusy { grantOf .sequencer [] none with lastOn := [(0, 1000 * 65536)] } 0 (1057 * 65536 + 39322) = false := by decide +kernel

/-- R392: y[n] = y[n−1] × (1 − 2⁻¹²) + x[n]. -/
theorem test_coil : coilStep 4096 10 = 4105 ∧ coilStep (-8192) 0 = -8190 := by decide +kernel

/-- R497: a cell is 0 when its space lasts longer than its mark. -/
theorem test_cell : (LyCell.one ⟨52084, 52083⟩, LyCell.one ⟨52083, 52084⟩) = (false, true) := by decide +kernel

/-- R514 at the reset values of 6 mA and 2 mV per mA: a mean current 6 mA over the baseline is no 0, one above that is. -/
theorem test_lsns : (readsZero full ⟨500, 12500⟩, readsZero full ⟨500, 12501⟩) = (false, true) := by decide +kernel

/-- R532: SCK low at the nCS falling edge selects mode 0, whose first SDO bit comes with that edge; SCK high selects mode 3. -/
theorem test_spiMode :
    ((openTransaction full .spi false).ports.spiMode3, (openTransaction full .spi false).ports.sdoFirst) = (false, some false) ∧
    ((openTransaction full .spi true).ports.spiMode3, (openTransaction full .spi true).ports.sdoFirst) = (true, none) := by decide +kernel

/-- Table 02.2, column Reset: nIRQ Z, RFSW low, UT0A U, PO0 Z; and without VIO every VIO pad Z (R59). -/
theorem test_pads :
    ([42, 70, 5, 38].map (padState { full with pw := { full.pw with mode := .chipReset, storeOpen := false } })) = [.z, .low, .ut, .z] ∧
    ([42, 70, 71, 38].map (padState { full with ports := { full.ports with vioOk := false } })) = [.z, .z, .z, .z] := by decide +kernel

/-- R9: on XQ40-GS, which has no heat block, the default `IntervalQuantity` 0x01, 0x04 leaves one value in an interval entry. -/
theorem test_intervalGS : ((intervalValues { full with code := .gs }).length, (intervalValues full).length) = (1, 2) := by decide +kernel

/-! ### Witnesses -/

/-- The hypotheses of each clause of EmptyQueueIsOneLfEdge can be met. -/
theorem witness_EmptyQueueIsOneLfEdge :
    (∃ (s : State), s.pending = [] ∧ gladeRuns s = false) ∧
    (∃ (s : State), s.pending = [] ∧ gladeRuns s = true) :=
  ⟨⟨{ full with pw := { full.pw with gladeOn := false } }, by decide +kernel⟩,
   ⟨full, by decide +kernel⟩⟩

/-- The hypotheses of each clause of CommandOutcomes can be met. -/
theorem witness_CommandOutcomes :
    (∃ (c : Instr) (s : State) (y : Refusal), Machine.exec c s = .refused y) ∧
    (∃ (c : Instr) (s : State) (t : State), Machine.exec c s = .next t) :=
  ⟨⟨.read .spi (hostFrame .read 0 (0xF000 * 256) []) false, full, .factoryUndescribed, factory_eq (by decide +kernel)⟩,
   ⟨.beginSeq .spi (hostFrame .beginSeq 0 0 []), full, run (.beginSeq .spi (hostFrame .beginSeq 0 0 [])) full, run_eq (by decide +kernel)⟩⟩

/-- The hypotheses of ImageStaysCanonical can be met. -/
theorem witness_ImageStaysCanonical :
    ∃ (s : State) (t : State), s.imageWf = true ∧ Machine.step s = .next t :=
  ⟨crown, edge crown, by decide +kernel, edge_eq (by decide +kernel)⟩

/-- The hypotheses of SessionLevelsStayLegal can be met. -/
theorem witness_SessionLevelsStayLegal :
    ∃ (s : State) (t : State), s.levelsWf = true ∧ Machine.step s = .next t :=
  ⟨full, edge full, by decide +kernel, edge_eq (by decide +kernel)⟩

/-- The hypotheses of each clause of ReadShowsTheImage can be met. -/
theorem witness_ReadShowsTheImage :
    (∃ (s : State) (r : Route) (f : Frame) (d : ObjDef), lookup s.code f.index.toNat f.sub.toNat = .obj d ∧ (d.kind = .rw ∨ d.kind = .rwc) ∧
      frameReady s r .read f = true) ∧
    (∃ (s : State) (r : Route) (f : Frame) (d : ObjDef), lookup s.code f.index.toNat f.sub.toNat = .obj d ∧ (d.kind = .rw ∨ d.kind = .rwc) ∧
      frameReady s r .readNext f = true ∧ f.data.length = 2 ∧ natOf f.data ≤ d.size) ∧
    (∃ (s : State) (r : Route) (f : Frame) (d : ObjDef), lookup s.code f.index.toNat f.sub.toNat = .obj d ∧ (d.kind = .rw ∨ d.kind = .rwc) ∧
      frameReady s r .read f = true ∧ grantFree false f.index.toNat = false) :=
  ⟨⟨full, .spi, hostFrame .read 0 Obj.LongWaitThreshold [], rowAt (frameKey (hostFrame .read 0 Obj.LongWaitThreshold [])), by decide +kernel⟩,
   ⟨full, .spi, hostFrame .readNext 0 Obj.BackupBytes [0, 32], rowAt (frameKey (hostFrame .readNext 0 Obj.BackupBytes [0, 32])), by decide +kernel⟩,
   ⟨full, .spi, hostFrame .read 3 Obj.SlewLimit [], rowAt (frameKey (hostFrame .read 3 Obj.SlewLimit [])), by decide +kernel⟩⟩

/-- The hypotheses of each clause of WriteStoresTheValue can be met. -/
theorem witness_WriteStoresTheValue :
    (∃ (s : State) (r : Route) (f : Frame) (d : ObjDef), d.kind = .rw ∧ mayStore s r d = true ∧ lookup s.code f.index.toNat f.sub.toNat = .obj d ∧
      specialWrites.contains (frameKey f) = false ∧ f.data.length = d.size ∧ inRange s d (frameKey f) (natOf f.data) = true ∧ frameReady s r .write f
      = true) ∧
    (∃ (s : State) (r : Route) (index : BitVec 16) (sub : Byte) (data : List Byte) (d : ObjDef), d.kind = .rw ∧ mayStore s r d = true ∧ lookup s.code
      index.toNat sub.toNat = .obj d ∧ specialWrites.contains (index.toNat * 256 + sub.toNat) = false ∧ data.length = d.size ∧ d.size ≤ 240 ∧ inRange
      s d (index.toNat * 256 + sub.toNat) (natOf data) = true ∧ hostReady s r 0 = true) :=
  ⟨⟨full, .spi, hostFrame .write 0 Obj.LongWaitThreshold [0, 20], rowAt (frameKey (hostFrame .write 0 Obj.LongWaitThreshold [0, 20])),
     by decide +kernel⟩,
   ⟨full, .spi, 0x4115, 0, [0x27, 0x10], rowAt ((0x4115 : BitVec 16).toNat * 256 + (0 : Byte).toNat), by decide +kernel⟩⟩

/-- The hypotheses of each clause of RefusedWritesChangeNothing can be met. -/
theorem witness_RefusedWritesChangeNothing :
    (∃ (s : State) (r : Route) (f : Frame) (d : ObjDef), frameReady s r .write f = true ∧ actsAtOnce f.index.toNat = false ∧ lookup s.code
      f.index.toNat f.sub.toNat = .obj d ∧ d.kind = .r) ∧
    (∃ (s : State) (r : Route) (f : Frame) (d : ObjDef), frameReady s r .write f = true ∧ actsAtOnce f.index.toNat = false ∧ lookup s.code
      f.index.toNat f.sub.toNat = .obj d ∧ d.kind ≠ .r ∧ (session s r).level < d.level) ∧
    (∃ (s : State) (r : Route) (f : Frame) (d : ObjDef), frameReady s r .write f = true ∧ actsAtOnce f.index.toNat = false ∧ lookup s.code
      f.index.toNat f.sub.toNat = .obj d ∧ d.kind ≠ .r ∧ d.m = true ∧ obj s Obj.SealState = 1 ∧ allowed s r d f.index.toNat = true) ∧
    (∃ (s : State) (r : Route) (f : Frame) (d : ObjDef), frameReady s r .write f = true ∧ actsAtOnce f.index.toNat = false ∧ lookup s.code
      f.index.toNat f.sub.toNat = .obj d ∧ d.kind ≠ .r ∧ allowed s r d f.index.toNat = true ∧ (d.m = true → obj s Obj.SealState ≠ 1) ∧ f.data.length
      ≠ d.size) ∧
    (∃ (s : State) (r : Route) (f : Frame) (d : ObjDef), frameReady s r .write f = true ∧ actsAtOnce f.index.toNat = false ∧ lookup s.code
      f.index.toNat f.sub.toNat = .obj d ∧ d.kind ≠ .r ∧ allowed s r d f.index.toNat = true ∧ (d.m = true → obj s Obj.SealState ≠ 1) ∧ f.data.length
      = d.size ∧ inRange s d (frameKey f) (natOf f.data) = false) :=
  ⟨⟨full, .spi, hostFrame .write 0 Obj.DuskCount [0, 0, 0, 0], rowAt (frameKey (hostFrame .write 0 Obj.DuskCount [0, 0, 0, 0])), by decide +kernel⟩,
   ⟨{ full with ports := { full.ports with sessions := [(1, sess 2)] } }, .spi, hostFrame .write 0 Obj.LongWaitThreshold [0, 20], rowAt (frameKey
     (hostFrame .write 0 Obj.LongWaitThreshold [0, 20])), by decide +kernel⟩,
   ⟨setObj full Obj.SealState 1, .spi, hostFrame .write 0 (Obj.PathEnable 1) [1], rowAt (frameKey (hostFrame .write 0 (Obj.PathEnable 1) [1])),
     by decide +kernel⟩,
   ⟨full, .spi, hostFrame .write 0 Obj.LongWaitThreshold [20], rowAt (frameKey (hostFrame .write 0 Obj.LongWaitThreshold [20])), by decide +kernel⟩,
   ⟨full, .spi, hostFrame .write 0 Obj.LongWaitThreshold [0, 0], rowAt (frameKey (hostFrame .write 0 Obj.LongWaitThreshold [0, 0])),
     by decide +kernel⟩⟩

/-- The hypotheses of each clause of BadFramesHaveNoEffect can be met. -/
theorem witness_BadFramesHaveNoEffect :
    (∃ (s : State) (r : Route) (op : Op) (f : Frame), portUp s r = true ∧ s.pw.storeOpen = true ∧ crcGood op f = false ∧ (f.len.toNat ≤ 240 ∨ r ≠
      .spi)) ∧
    (∃ (s : State) (r : Route) (op : Op) (f : Frame), portUp s r = true ∧ s.pw.storeOpen = true ∧ (crcGood op f = true ∧ formGood op f = false ∨ r =
      .spi ∧ 240 < f.len.toNat)) :=
  ⟨⟨full, .spi, .read, { hostFrame .read 0 Obj.OptionFuses [] with crc := 0 }, by decide +kernel⟩,
   ⟨full, .spi, .read, hostFrame .read 9 Obj.OptionFuses [], by decide +kernel⟩⟩

/-- The hypotheses of each clause of ShadowsWaitForTheirCommit can be met. -/
theorem witness_ShadowsWaitForTheirCommit :
    (∃ (s : State) (r : Route) (f : Frame) (d : ObjDef), lookup s.code f.index.toNat f.sub.toNat = .obj d ∧ d.kind = .rwc ∧ mayStore s r d = true ∧
      f.data.length = d.size ∧ inRange s d (frameKey f) (natOf f.data) = true ∧ frameReady s r .write f = true) ∧
    (∃ (s : State) (r : Route) (b : Block), hostReady s r 3 = true ∧ blockPresent s.code b = true ∧ blockOk s b = true ∧ rising s.shadow = true) ∧
    (∃ (s : State) (r : Route) (b : Block), hostReady s r 3 = true ∧ blockPresent s.code b = true) :=
  ⟨⟨full, .spi, hostFrame .write 0 (Obj.StoreClass 1) [1], rowAt (frameKey (hostFrame .write 0 (Obj.StoreClass 1) [1])), by decide +kernel⟩,
   ⟨{ full with shadow := [(Obj.StoreClass 1, 1)] }, .spi, .arbiter, by decide +kernel⟩,
   ⟨{ full with shadow := [(Obj.StoreClass 1, 1)] }, .spi, .arbiter, by decide +kernel⟩⟩

/-- The hypotheses of each clause of SequencesStage can be met. -/
theorem witness_SequencesStage :
    (∃ (s : State) (r : Route) (f : Frame), frameReady s r .beginSeq f = true ∧ mfind s.ports.seqs r.slot = none) ∧
    (∃ (s : State) (r : Route) (f : Frame) (q : Seq), frameOk s r .write f = true ∧ f.flags = 1 ∧ seqOf s r = some q ∧ actsAtOnce f.index.toNat =
      false ∧ (writeCheck (overlay (arrived s r f) r q.staged) r false f.index.toNat f.sub.toNat f.data).1 = stOk ∧ pastLimits s (q.staged ++
      [⟨false, frameKey f, f.data⟩]) = false) ∧
    (∃ (s : State) (r : Route) (f : Frame) (q : Seq) (l : List Staged) (v : List Byte) (d : ObjDef), frameOk s r .read f = true ∧ f.flags = 1 ∧ seqOf
      s r = some q ∧ q.staged = l ++ [⟨false, frameKey f, v⟩] ∧ lookup s.code f.index.toNat f.sub.toNat = .obj d ∧ (d.kind = .rw ∨ d.kind = .rwc) ∧
      v.length ≤ 240) :=
  ⟨⟨full, .spi, hostFrame .beginSeq 0 0 [], by decide +kernel⟩,
   ⟨spiSeq [], .spi, flagged 1 .write 0 Obj.LongWaitThreshold [0, 20], ⟨.spi, [], 0⟩, by decide +kernel⟩,
   ⟨spiSeq [⟨false, Obj.LongWaitThreshold, [0, 20]⟩], .spi, flagged 1 .read 0 Obj.LongWaitThreshold [], ⟨.spi, [⟨false, Obj.LongWaitThreshold, [0,
     20]⟩], 0⟩, [], [0, 20], rowAt Obj.LongWaitThreshold, by decide +kernel⟩⟩

/-- The hypotheses of AbortDiscardsTheSequence can be met. -/
theorem witness_AbortDiscardsTheSequence :
    ∃ (s : State) (r : Route) (f : Frame) (q : Seq), routeAnswers s r = true ∧ bufferTakes r f = true ∧ mfind s.ports.tags (tagSlot r f.tag.toNat) =
      none ∧ crcGood .abort f = true ∧ formGood .abort f = true ∧ seqOf s r = some q :=
  ⟨spiSeq [], .spi, hostFrame .abort 0 0 [], ⟨.spi, [], 0⟩, by decide +kernel⟩

/-- The hypotheses of each clause of CommitAppliesAllOrNone can be met. -/
theorem witness_CommitAppliesAllOrNone :
    (∃ (s : State) (r : Route) (f : Frame) (q : Seq), frameOk s r .commit f = true ∧ f.flags = 0 ∧ seqOf s r = some q ∧ q.staged.all (plainStaged s
      r) = true) ∧
    (∃ (s : State) (r : Route) (f : Frame) (q : Seq), frameOk s r .write f = true ∧ f.flags = 3 ∧ seqOf s r = some q ∧ pastLimits s (q.staged ++
      [⟨false, frameKey f, f.data⟩]) = false ∧ (q.staged ++ [(⟨false, frameKey f, f.data⟩ : Staged)]).all (plainStaged s r) = true) ∧
    (∃ (s : State) (r : Route) (f : Frame) (d : ObjDef), frameReady s r .exec f = true ∧ lookup s.code f.index.toNat f.sub.toNat = .obj d ∧
      plainActions.contains (frameKey f) = true ∧ mayStore s r d = true ∧ f.data.length = d.size ∧ inRange s d (frameKey f) (natOf f.data) = true) ∧
    (∃ (s : State) (u : State) (r : Route) (f : Frame) (q : Seq) (k : Nat), frameOk s r .commit f = true ∧ f.flags = 0 ∧ seqOf s r = some q ∧
      applyStaged (arrived s r f) r q.staged = (stOk, k, u) ∧ u.flash.breakTxn = s.flash.breakTxn ∧ (r = .lysef → u.lm.running = false)) ∧
    (∃ (s : State) (u : State) (r : Route) (f : Frame) (q : Seq) (st : Nat) (k : Nat), frameOk s r .commit f = true ∧ f.flags = 0 ∧ seqOf s r = some
      q ∧ applyStaged (arrived s r f) r q.staged = (st, k, u) ∧ st ≠ stOk) ∧
    (∃ (s : State) (u : State) (r : Route) (f : Frame) (q : Seq) (k : Nat) (x : Bool), frameOk s r (if x then .exec else .write) f = true ∧ f.flags =
      3 ∧ seqOf s r = some q ∧ actsAtOnce f.index.toNat = false ∧ (writeCheck (overlay (arrived s r f) r q.staged) r x f.index.toNat f.sub.toNat
      f.data).1 = stOk ∧ pastLimits s (q.staged ++ [⟨x, frameKey f, f.data⟩]) = false ∧ applyStaged (setSeq (arrived s r f) r ⟨r, q.staged ++ [⟨x,
      frameKey f, f.data⟩], 0⟩) r (q.staged ++ [⟨x, frameKey f, f.data⟩]) = (stOk, k, u) ∧ u.flash.breakTxn = s.flash.breakTxn ∧ (r = .lysef →
      u.lm.running = false)) ∧
    (∃ (s : State) (u : State) (r : Route) (f : Frame) (d : ObjDef), frameReady s r .exec f = true ∧ d.kind = .x ∧ writeCheck (arrived s r f) r true
      f.index.toNat f.sub.toNat f.data = (stOk, some d) ∧ carryOut (arrived s r f) r d (frameKey f) f.data = (stOk, u) ∧ u.flash.breakTxn =
      s.flash.breakTxn ∧ u.lm.running = s.lm.running) :=
  ⟨⟨spiSeq staged2, .spi, hostFrame .commit 0 0 [], ⟨.spi, staged2, 0⟩, by decide +kernel⟩,
   ⟨spiSeq staged2, .spi, flagged 3 .write 0 Obj.LongWaitThreshold [0, 21], ⟨.spi, staged2, 0⟩, by decide +kernel⟩,
   ⟨full, .spi, hostFrame .exec 0 Obj.LatchNow [1], rowAt Obj.LatchNow, by decide +kernel⟩,
   ⟨spiSeq [⟨false, Obj.VduskThreshold, [8, 0x34]⟩], (applyStaged (arrived (spiSeq [⟨false, Obj.VduskThreshold, [8, 0x34]⟩]) (.spi : Route)
     (hostFrame .commit 0 0 [])) (.spi : Route) (⟨.spi, [⟨false, Obj.VduskThreshold, [8, 0x34]⟩], 0⟩ : Seq).staged).2.2, .spi, hostFrame .commit 0 0
     [], ⟨.spi, [⟨false, Obj.VduskThreshold, [8, 0x34]⟩], 0⟩, (applyStaged (arrived (spiSeq [⟨false, Obj.VduskThreshold, [8, 0x34]⟩]) (.spi : Route)
     (hostFrame .commit 0 0 [])) (.spi : Route) (⟨.spi, [⟨false, Obj.VduskThreshold, [8, 0x34]⟩], 0⟩ : Seq).staged).2.1, by decide +kernel⟩,
   ⟨spiSeq [⟨false, Obj.LongWaitThreshold, [0, 0]⟩], (applyStaged (arrived (spiSeq [⟨false, Obj.LongWaitThreshold, [0, 0]⟩]) (.spi : Route)
     (hostFrame .commit 0 0 [])) (.spi : Route) (⟨.spi, [⟨false, Obj.LongWaitThreshold, [0, 0]⟩], 0⟩ : Seq).staged).2.2, .spi, hostFrame .commit 0 0
     [], ⟨.spi, [⟨false, Obj.LongWaitThreshold, [0, 0]⟩], 0⟩, (applyStaged (arrived (spiSeq [⟨false, Obj.LongWaitThreshold, [0, 0]⟩]) (.spi : Route)
     (hostFrame .commit 0 0 [])) (.spi : Route) (⟨.spi, [⟨false, Obj.LongWaitThreshold, [0, 0]⟩], 0⟩ : Seq).staged).1, (applyStaged (arrived (spiSeq
     [⟨false, Obj.LongWaitThreshold, [0, 0]⟩]) (.spi : Route) (hostFrame .commit 0 0 [])) (.spi : Route) (⟨.spi, [⟨false, Obj.LongWaitThreshold, [0,
     0]⟩], 0⟩ : Seq).staged).2.1, by decide +kernel⟩,
   ⟨spiSeq staged2, (applyStaged (setSeq (arrived (spiSeq staged2) (.spi : Route) (flagged 3 .exec 0 Obj.LatchNow [1])) (.spi : Route) ⟨(.spi :
     Route), (⟨.spi, staged2, 0⟩ : Seq).staged ++ [⟨true, frameKey (flagged 3 .exec 0 Obj.LatchNow [1]), (flagged 3 .exec 0 Obj.LatchNow [1]).data⟩],
     0⟩) (.spi : Route) ((⟨.spi, staged2, 0⟩ : Seq).staged ++ [(⟨true, frameKey (flagged 3 .exec 0 Obj.LatchNow [1]), (flagged 3 .exec 0 Obj.LatchNow
     [1]).data⟩ : Staged)])).2.2, .spi, flagged 3 .exec 0 Obj.LatchNow [1], ⟨.spi, staged2, 0⟩, (applyStaged (setSeq (arrived (spiSeq staged2) (.spi
     : Route) (flagged 3 .exec 0 Obj.LatchNow [1])) (.spi : Route) ⟨(.spi : Route), (⟨.spi, staged2, 0⟩ : Seq).staged ++ [⟨true, frameKey (flagged 3
     .exec 0 Obj.LatchNow [1]), (flagged 3 .exec 0 Obj.LatchNow [1]).data⟩], 0⟩) (.spi : Route) ((⟨.spi, staged2, 0⟩ : Seq).staged ++ [(⟨true,
     frameKey (flagged 3 .exec 0 Obj.LatchNow [1]), (flagged 3 .exec 0 Obj.LatchNow [1]).data⟩ : Staged)])).2.1, true, by decide +kernel⟩,
   ⟨full, (carryOut (arrived full (.spi : Route) (hostFrame .exec 0 Obj.LatchNow [1])) (.spi : Route) (rowAt Obj.LatchNow) (frameKey (hostFrame .exec
     0 Obj.LatchNow [1])) (hostFrame .exec 0 Obj.LatchNow [1]).data).2, .spi, hostFrame .exec 0 Obj.LatchNow [1], rowAt Obj.LatchNow,
     by decide +kernel⟩⟩

/-- The hypotheses of each clause of StatusCollectsHeldResponses can be met. -/
theorem witness_StatusCollectsHeldResponses :
    (∃ (s : State) (r : Route) (f : Frame) (u : TagUse) (n : Nat) (x : Resp), portUp s r = true ∧ s.pw.storeOpen = true ∧ crcGood .status f = true ∧
      formGood .status f = true ∧ mfind s.ports.tags (tagSlot r f.tag.toNat) = some u ∧ u.phase = .held n x ∧ x.status ≠ stPending ∧ routeRoom s r x
      = true) ∧
    (∃ (s : State) (r : Route) (f : Frame), portUp s r = true ∧ s.pw.storeOpen = true ∧ crcGood .status f = true ∧ formGood .status f = true ∧ mfind
      s.ports.tags (tagSlot r f.tag.toNat) = none) ∧
    (∃ (s : State) (r : Route) (f : Frame), portUp s r = true ∧ s.pw.storeOpen = true ∧ crcGood .nop f = true ∧ formGood .nop f = true) ∧
    (∃ (s : State) (r : Route) (u : TagUse) (tag : Nat) (x : Resp), u.route = r ∧ (r = .spi ∨ r = .lysef ∨ r = .vicinity) ∧ u.phase = .done x ∧ mfind
      s.ports.tags (tagSlot r tag) = some u) :=
  ⟨⟨{ full with ports := { full.ports with tags := [(4, ⟨.spi, .read, hostFrame .read 0 Obj.TdcMode [], .held 7 ⟨0, 0, 0x2002, 0, [0]⟩⟩)] } }, .spi,
     hostFrame .status 0 0 [], ⟨.spi, .read, hostFrame .read 0 Obj.TdcMode [], .held 7 ⟨0, 0, 0x2002, 0, [0]⟩⟩, 7, ⟨0, 0, 0x2002, 0, [0]⟩,
     by decide +kernel⟩,
   ⟨full, .spi, hostFrame .status 3 0 [], by decide +kernel⟩,
   ⟨full, .spi, hostFrame .nop 0 0 [], by decide +kernel⟩,
   ⟨{ full with ports := { full.ports with tags := [(7, ⟨.spi, .read, hostFrame .read 3 Obj.TdcMode [], .done ⟨0, 3, 0x2002, 0, [0]⟩⟩)] } }, .spi,
     ⟨.spi, .read, hostFrame .read 3 Obj.TdcMode [], .done ⟨0, 3, 0x2002, 0, [0]⟩⟩, 3, ⟨0, 3, 0x2002, 0, [0]⟩, by decide +kernel⟩⟩

/-- The hypotheses of each clause of ChallengeAndResponse can be met. -/
theorem witness_ChallengeAndResponse :
    (∃ (s : State) (r : Route), hostAnswers s r = true) ∧
    (∃ (s : State) (r : Route) (level : Byte) (mac : BitVec 64) (c : BitVec 64), hostAnswers s r = true ∧ 1 ≤ level.toNat ∧ level.toNat ≤ 4 ∧
      (session s r).locked = false ∧ s.ports.keyFaults.contains level.toNat = false ∧ (session s r).challenge = some c ∧ mac.toNat = Aes.cmac8 (obj s
      (Obj.LevelKey level.toNat)) (pl 8 c.toNat ++ pl 8 (obj s Obj.DeviceIdentity) ++ [level.toNat, r.code])) ∧
    (∃ (s : State) (r : Route) (level : Byte) (mac : BitVec 64), hostAnswers s r = true ∧ 1 ≤ level.toNat ∧ level.toNat ≤ 4 ∧ (session s r).locked =
      false ∧ s.ports.keyFaults.contains level.toNat = false ∧ (∀ c, (session s r).challenge = some c → mac.toNat ≠ Aes.cmac8 (obj s (Obj.LevelKey
      level.toNat)) (pl 8 c.toNat ++ pl 8 (obj s Obj.DeviceIdentity) ++ [level.toNat, r.code]))) :=
  ⟨⟨full, .spi, by decide +kernel⟩,
   ⟨{ full with ports := { full.ports with sessions := [(1, ⟨0, some 5, 0, [], false⟩)] } }, .spi, 4, BitVec.ofNat 64 (Aes.cmac8 (obj
     ({ full with ports := { full.ports with sessions := [(1, ⟨0, some 5, 0, [], false⟩)] } }) (Obj.LevelKey (4 : Byte).toNat)) (pl 8 (5 : BitVec
     64).toNat ++ pl 8 (obj ({ full with ports := { full.ports with sessions := [(1, ⟨0, some 5, 0, [], false⟩)] } }) Obj.DeviceIdentity) ++ [(4 :
     Byte).toNat, (.spi : Route).code])), 5, by decide +kernel⟩,
   ⟨full, .spi, 1, 0,
     by decide +kernel, by decide, by decide, by decide +kernel, by decide +kernel, fun c h => by rw [show (session full .spi).challenge = none by decide +kernel] at h; cases h⟩⟩

/-- The hypotheses of each clause of SessionsEnd can be met. -/
theorem witness_SessionsEnd :
    (∃ (s : State) (r : Route), hostAnswers s r = true) ∧
    (∃ (s : State) (r : Route), hostAnswers s r = true ∧ s.front.freezeBy = some r ∧ obj s Obj.ArbiterFreeze ≠ 0) ∧
    (∃ (s : State) (r : Route), (0 < (session s r).level ∨ (session s r).challenge ≠ none) ∧ obj s Obj.SessionIdleLimit * 32768 ≤ ticks s - (session
      s r).lastTick) ∧
    (∃ (s : State) (r : Route), (ticks s - (session s r).lastTick < obj s Obj.SessionIdleLimit * 32768 ∨ (session s r).level = 0 ∧ (session s
      r).challenge = none)) ∧
    (∃ (s : State) (r : Route), (session s r).locked = true ∧ (((session s r).fails.getLast?.map (·.2)).getD 0) + obj s Obj.AuthLockoutTime * 32768 ≤
      ticks s) ∧
    (∃ (s : State) (r : Route), ((session s r).locked = false ∨ ticks s < (((session s r).fails.getLast?.map (·.2)).getD 0) + obj s
      Obj.AuthLockoutTime * 32768)) ∧
    (∃ (s : State), s.ports.vioOk = true ∧ portsDead s = false) ∧
    (∃ (s : State), s.pw.bus = true ∧ s.lm.running = false) ∧
    (∃ (s : State), s.pw.field = true) ∧
    (∃ (s : State), s.ports.vioOk = true ∧ s.pw.mode ≠ .off ∧ s.pw.mode ≠ .chipReset) ∧
    (∃ (s : State), s.pw.vbat = true ∧ coreUp s = true) ∧
    (∃ (s : State), s.ports.vioOk = true) ∧
    (∃ (s : State), s.ports.vioOk = true ∧ s.pw.mode ≠ .chipReset) :=
  ⟨⟨full, .spi, by decide +kernel⟩,
   ⟨{ setObj full Obj.ArbiterFreeze 2 with front := { full.front with freezeBy := some .spi } }, .spi, by decide +kernel⟩,
   ⟨{ full with ports := { full.ports with sessions := [(1, ⟨2, none, 0, [], false⟩)] } }, .spi, by decide +kernel⟩,
   ⟨full, .spi, by decide +kernel⟩,
   ⟨lockedOut, .spi, by decide +kernel⟩,
   ⟨full, .spi, by decide +kernel⟩,
   ⟨full, by decide +kernel⟩,
   ⟨full, by decide +kernel⟩,
   ⟨full, by decide +kernel⟩,
   ⟨full, by decide +kernel⟩,
   ⟨full, by decide +kernel⟩,
   ⟨full, by decide +kernel⟩,
   ⟨full, by decide +kernel⟩⟩

/-- The hypotheses of each clause of KeysAndTheSeal can be met. -/
theorem witness_KeysAndTheSeal :
    (∃ (s : State) (r : Route) (level : Byte), hostReady s r (if level.toNat = 4 then 4 else 3) = true ∧ 1 ≤ level.toNat ∧ level.toNat ≤ 4 ∧ r ≠
      .lysef) ∧
    (∃ (s : State) (level : Byte), hostReady s .lysef 4 = true ∧ 1 ≤ level.toNat ∧ level.toNat ≤ 4) ∧
    (∃ (s : State) (r : Route), hostReady s r 3 = true ∧ mShadow s = false) ∧
    (∃ (s : State) (r : Route), hostReady s r 3 = true ∧ mShadow s = true) ∧
    (∃ (s : State) (r : Route), hostReady s r 4 = true ∧ (r = .spi ∨ r = .vicinity) ∧ s.flash.nextTxn ≠ 0 ∧ s.flash.breakTxn ≠ some s.flash.nextTxn) ∧
    (∃ (s : State) (rec_ : Rec), s.flash.work = some (.record rec_) ∧ s.flash.breakTxn = some rec_.txn ∧ rec_.final = true ∧ (programRec s
      rec_).isSome = true) :=
  ⟨⟨full, .spi, 4, by decide +kernel⟩,
   ⟨full, 1, by decide +kernel⟩,
   ⟨full, .spi, by decide +kernel⟩,
   ⟨{ full with shadow := [(Obj.PathEnable 1, 0)] }, .spi, by decide +kernel⟩,
   ⟨full, .spi, by decide +kernel⟩,
   ⟨inFlash full (fun x => { x with work := some (.record (⟨1, 0, true, .data [(Obj.SealBreakCount, 1)], []⟩ : Rec)), breakTxn := some 1 }), ⟨1, 0,
     true, .data [(Obj.SealBreakCount, 1)], []⟩, by decide +kernel⟩⟩

/-- The hypotheses of each clause of HostPowerCommands can be met. -/
theorem witness_HostPowerCommands :
    (∃ (s : State) (r : Route), hostReady s r 2 = true ∧ s.pw.mode = .transport ∧ s.pw.transportSet = true ∧ (r = .lysef → obj s
      Obj.LysefMasterEnable = 0)) ∧
    (∃ (s : State) (r : Route), hostReady s r 2 = true ∧ s.pw.transportSet = false) ∧
    (∃ (s : State) (r : Route), hostReady s r 4 = true) ∧
    (∃ (s : State) (r : Route) (mAh : BitVec 32), hostReady s r 3 = true ∧ obj s Obj.BatterySwapPending ≠ 0 ∧ 100 ≤ mAh.toNat ∧ mAh.toNat ≤ 20000) ∧
    (∃ (s : State) (r : Route), hostReady s r 3 = true) :=
  ⟨⟨{ full with pw := { full.pw with mode := .transport, transportSet := true } }, .spi, by decide +kernel⟩,
   ⟨full, .spi, by decide +kernel⟩,
   ⟨full, .spi, by decide +kernel⟩,
   ⟨setObj full Obj.BatterySwapPending 1, .spi, 20000, by decide +kernel⟩,
   ⟨full, .spi, by decide +kernel⟩⟩

/-- The hypotheses of each clause of HostArbiterCommands can be met. -/
theorem witness_HostArbiterCommands :
    (∃ (s : State) (r : Route), hostReady s r 3 = true) ∧
    (∃ (s : State) (r : Route), hostReady s r 3 = true) ∧
    (∃ (s : State) (r : Route), portUp s r = true ∧ s.pw.storeOpen = true ∧ s.pw.mode ≠ .readout ∧ obj s Obj.StoreStage ≠ 2 ∧ mayTakeTag s
      r.requester = true ∧ seqOf s r = none ∧ mfind s.ports.tags (tagSlot r (nextTag s r)) = none ∧ 3 ≤ (session s r).level ∧ (s.front.freezeBy =
      some r ∨ 4 ≤ (session s r).level)) ∧
    (∃ (s : State) (r : Route), hostReady s r 3 = true) :=
  ⟨⟨full, .spi, by decide +kernel⟩,
   ⟨full, .spi, by decide +kernel⟩,
   ⟨{ setObj full Obj.ArbiterFreeze 2 with front := { full.front with freezeBy := some .spi } }, .spi, by decide +kernel⟩,
   ⟨full, .spi, by decide +kernel⟩⟩

/-- The hypotheses of each clause of HostMeasureCommands can be met. -/
theorem witness_HostMeasureCommands :
    (∃ (s : State) (r : Route) (p : Nat), hostReady s r 3 = true ∧ p < 3 ∧ obj s (Obj.TdcPairState (p + 1)) = 2) ∧
    (∃ (s : State) (r : Route) (v : Byte), hostReady s r 2 = true ∧ 1 ≤ v.toNat ∧ v.toNat ≤ 4) ∧
    (∃ (s : State) (r : Route), hostReady s r 3 = true ∧ obj s Obj.SealState = 0) ∧
    (∃ (s : State) (r : Route) (v : Byte), hostReady s r 2 = true ∧ 1 ≤ v.toNat ∧ v.toNat ≤ 8) ∧
    (∃ (s : State) (r : Route), hostReady s r 2 = true) ∧
    (∃ (s : State) (r : Route), hostReady s r 3 = true ∧ obj s Obj.SealState = 0) :=
  ⟨⟨setObj full (Obj.TdcPairState 3) 2, .spi, 2, by decide +kernel⟩,
   ⟨full, .spi, 4, by decide +kernel⟩,
   ⟨full, .spi, by decide +kernel⟩,
   ⟨full, .spi, 8, by decide +kernel⟩,
   ⟨full, .spi, by decide +kernel⟩,
   ⟨full, .spi, by decide +kernel⟩⟩

/-- The hypotheses of each clause of HostTimeCommands can be met. -/
theorem witness_HostTimeCommands :
    (∃ (s : State) (r : Route), hostReady s r 3 = true) ∧
    (∃ (s : State) (r : Route) (cal : BitVec 56) (secs : Nat), hostReady s r 3 = true ∧ calendarSecs (bytesOf 7 cal.toNat) = some secs ∧ 0 ≤ (secs :
      Int) - 900 * objI 1 s Obj.LocalOffset) ∧
    (∃ (s : State) (r : Route) (ms : BitVec 32), hostReady s r 2 = true ∧ (toInt 4 ms.toNat).natAbs ≤ obj s Obj.SlewLimit) ∧
    (∃ (s : State) (r : Route) (ms : BitVec 32), hostReady s r 2 = true ∧ obj s Obj.SlewLimit < (toInt 4 ms.toNat).natAbs) ∧
    (∃ (s : State) (r : Route) (v : Byte), hostReady s r 2 = true ∧ 1 ≤ v.toNat ∧ v.toNat ≤ 7) ∧
    (∃ (s : State) (r : Route) (ms : BitVec 32), hostReady s r 2 = true ∧ ms.toNat ≤ 16777215) ∧
    (∃ (s : State) (r : Route) (data : List Byte), hostReady s r 2 = true ∧ data.length = 32) ∧
    (∃ (s : State) (r : Route) (v : Byte), hostReady s r 3 = true ∧ -48 ≤ toInt 1 v.toNat ∧ toInt 1 v.toNat ≤ 56) :=
  ⟨⟨full, .spi, by decide +kernel⟩,
   ⟨full, .spi, 0x23991231235959, (calendarSecs (bytesOf 7 (0x23991231235959 : BitVec 56).toNat)).getD 0, by decide +kernel⟩,
   ⟨full, .spi, 0xFFFFFFFF, by decide +kernel⟩,
   ⟨full, .spi, 0x7FFFFFFF, by decide +kernel⟩,
   ⟨full, .spi, 7, by decide +kernel⟩,
   ⟨full, .spi, 0xFFFFFF, by decide +kernel⟩,
   ⟨full, .spi, List.replicate 32 5, by decide +kernel⟩,
   ⟨full, .spi, 0xD0, by decide +kernel⟩⟩

/-- The hypotheses of each clause of HostLatchAndFlagCommands can be met. -/
theorem witness_HostLatchAndFlagCommands :
    (∃ (s : State) (r : Route), hostReady s r 2 = true ∧ latchRoom s = true) ∧
    (∃ (s : State) (r : Route), hostReady s r 2 = true) ∧
    (∃ (s : State) (r : Route) (v : Byte), hostReady s r 0 = true ∧ v.toNat ≤ 127 ∧ s.radio.inbox = []) ∧
    (∃ (s : State) (r : Route) (v : Byte), hostReady s r 0 = true ∧ v.toNat ≤ 127 ∧ s.radio.inbox ≠ []) ∧
    (∃ (s : State) (r : Route), hostReady s r 1 = true) ∧
    (∃ (s : State) (r : Route), hostReady s r 3 = true ∧ s.code = .le) :=
  ⟨⟨full, .spi, by decide +kernel⟩,
   ⟨full, .spi, by decide +kernel⟩,
   ⟨full, .spi, 127, by decide +kernel⟩,
   ⟨{ full with radio := { full.radio with inbox := [[1]] } }, .spi, 64, by decide +kernel⟩,
   ⟨full, .spi, by decide +kernel⟩,
   ⟨full, .spi, by decide +kernel⟩⟩

/-- The hypotheses of each clause of HostLysefCommands can be met. -/
theorem witness_HostLysefCommands :
    (∃ (s : State) (r : Route), hostReady s r 3 = true) ∧
    (∃ (s : State) (r : Route), hostReady s r 3 = true ∧ masterUp s = true ∧ (s.lm.openSlaves = [] ∨ obj s Obj.LysefBreakDefer = 0)) ∧
    (∃ (s : State) (r : Route), hostReady s r 3 = true ∧ masterUp s = true ∧ (s.lm.openSlaves = [] ∨ obj s Obj.LysefBreakDefer = 0)) ∧
    (∃ (s : State) (r : Route) (data : List Byte), hostReady s r 2 = true ∧ data.length = 240 ∧ ((data[6]?).getD 0).toNat ≤ 231 ∧ masterUp s = true ∧
      s.pw.bus = true ∧ s.lm.deferred = none) ∧
    (∃ (s : State) (r : Route) (data : List Byte), hostReady s r 2 = true ∧ data.length = 240 ∧ ((data[6]?).getD 0).toNat ≤ 231 ∧ s.pw.bus = false) ∧
    (∃ (s : State) (r : Route), hostReady s r 3 = true ∧ isFull s = true) ∧
    (∃ (s : State) (r : Route), hostReady s r 3 = true) ∧
    (∃ (s : State) (r : Route) (rate : BitVec 16), hostReady s r 3 = true ∧ [1200, 2400, 4800, 9600, 19200].contains rate.toNat = true) :=
  ⟨⟨full, .spi, by decide +kernel⟩,
   ⟨{ full with lm := { full.lm with running := true } }, .spi, by decide +kernel⟩,
   ⟨{ full with lm := { full.lm with running := true } }, .spi, by decide +kernel⟩,
   ⟨{ full with lm := { full.lm with running := true } }, .spi, List.replicate 240 1, by decide +kernel⟩,
   ⟨{ full with pw := { full.pw with bus := false } }, .spi, List.replicate 240 1, by decide +kernel⟩,
   ⟨full, .spi, by decide +kernel⟩,
   ⟨full, .spi, by decide +kernel⟩,
   ⟨full, .spi, 19200, by decide +kernel⟩⟩

/-- The hypotheses of each clause of HostGroveCommands can be met. -/
theorem witness_HostGroveCommands :
    (∃ (s : State) (r : Route) (identity : BitVec 64) (short : Byte), hostReady s r 3 = true ∧ r ≠ .lysef ∧ entryHolding s identity.toNat = none ∧
      short ≠ 0 ∧ mfind s.radio.stems short.toNat = none) ∧
    (∃ (s : State) (r : Route) (identity : BitVec 64) (n : Nat), hostReady s r 3 = true ∧ entryHolding s identity.toNat = some n) ∧
    (∃ (s : State) (r : Route) (map : BitVec 64) (first : Byte), hostReady s r 3 = true ∧ mapFits (obj s Obj.RadioBand) map.toNat first.toNat = true
      ∧ isCrown s = true) ∧
    (∃ (s : State) (r : Route) (map : BitVec 64) (first : Byte), hostReady s r 3 = true ∧ mapFits (obj s Obj.RadioBand) map.toNat first.toNat =
      false) ∧
    (∃ (s : State) (instant : BitVec 16) (n : Nbr) (c : Conn), hostReady s (.grove 0) 0 = true ∧ isStem s = true ∧ nbr s 0 = some n ∧ n.conn = some c
      ∧ 32768 < (c.event + 65536 - instant.toNat) % 65536) ∧
    (∃ (s : State) (r : Route) (data : List Byte), hostReady s r 2 = true ∧ data.length = 240 ∧ ((data[7]?).getD 0).toNat ≤ 230 ∧ s.radio.send = none
      ∧ isCrown s = true ∧ connected s (data.headD 0).toNat = true) ∧
    (∃ (s : State) (r : Route) (data : List Byte), hostReady s r 2 = true ∧ data.length = 240 ∧ ((data[7]?).getD 0).toNat ≤ 230 ∧ s.radio.send.isSome
      = true) ∧
    (∃ (s : State) (r : Route) (data : List Byte), hostReady s r 2 = true ∧ data.length = 240 ∧ 1 ≤ ((data[1]?).getD 0).toNat ∧ ((data[1]?).getD
      0).toNat ≤ 230 ∧ s.radio.txq.length < 8) ∧
    (∃ (s : State) (r : Route), hostReady s r 1 = true) :=
  ⟨⟨full, .spi, 20, 255, by decide +kernel⟩,
   ⟨full, .spi, 10, 5, by decide +kernel⟩,
   ⟨crown, .spi, 0x00FC000000000000, 0, by decide +kernel⟩,
   ⟨full, .spi, 0, 0, by decide +kernel⟩,
   ⟨stem, 5, (nbr stem 0).getD (peer 0), ((nbr stem 0).getD (peer 0) : Nbr).conn.getD conn, by decide +kernel⟩,
   ⟨crown, .spi, List.replicate 240 5, by decide +kernel⟩,
   ⟨{ crown with radio := { crown.radio with send := some 5 } }, .spi, List.replicate 240 5, by decide +kernel⟩,
   ⟨full, .spi, List.replicate 240 5, by decide +kernel⟩,
   ⟨{ full with radio := { full.radio with inbox := [[1], [2]] } }, .spi, by decide +kernel⟩⟩

/-- The hypotheses of each clause of HostServiceCommands can be met. -/
theorem witness_HostServiceCommands :
    (∃ (s : State) (r : Route) (path : Byte), hostReady s r 3 = true ∧ path.toNat < 4 ∧ obj s (Obj.PathEnable (path.toNat + 1)) ≠ 0 ∧ obj s
      Obj.PathInService = 0 ∧ s.flow.zeroCal = none) ∧
    (∃ (s : State) (r : Route) (path : Byte) (rise : RiseTimes), hostReady s r 3 = true ∧ path.toNat < 4 ∧ pathServed s path.toNat = true ∧ obj s
      Obj.TdcMode ≠ 2 ∧ path.toNat < s.pads.rise.length ∧ rise.a < 2000000 ∧ rise.b < 2000000 ∧ obj s Obj.TransducerCapMin ≤ min (capacitance rise.a)
      (capacitance rise.b)) ∧
    (∃ (s : State) (r : Route) (path : Byte) (rise : RiseTimes), hostReady s r 3 = true ∧ path.toNat < 4 ∧ pathServed s path.toNat = true ∧ obj s
      Obj.TdcMode ≠ 2 ∧ path.toNat < s.pads.rise.length ∧ 2000000 ≤ rise.a) ∧
    (∃ (s : State) (r : Route) (path : Byte), hostReady s r 3 = true ∧ path.toNat < 4 ∧ pathServed s path.toNat = true) ∧
    (∃ (s : State) (r : Route) (data : List Byte), hostReady s r 3 = true ∧ data.length = 14 ∧ (sensorReplace s data).1 = stOk) :=
  ⟨⟨full, .spi, 3, by decide +kernel⟩,
   ⟨setObj full Obj.PathInService 1, .spi, 0, ⟨50000, 50000⟩, by decide +kernel⟩,
   ⟨setObj full Obj.PathInService 8, .spi, 3, ⟨2000000, 0⟩, by decide +kernel⟩,
   ⟨setObj full Obj.PathInService 1, .spi, 0, by decide +kernel⟩,
   ⟨setMany full [(Obj.PortRole 1, 1), (Obj.PortRole 2, 2)], .spi, [0, 1, 0, 0, 0, 0, 0, 0, 0, 0, 0, 0, 0, 0], by decide +kernel⟩⟩

/-- The hypotheses of each clause of LossOfSources can be met. -/
theorem witness_LossOfSources :
    (∃ (s : State), s.pw.vbat = true ∧ coreUp s = true) ∧
    (∃ (s : State), (s.pw.mode = .full ∨ s.pw.mode = .transport ∨ s.pw.mode = .duskHold)) ∧
    (∃ (s : State), s.pw.gladeOn = true ∧ s.pw.vbat = false ∧ s.pw.bus = false ∧ s.pw.field = false) ∧
    (∃ (s : State), s.pw.gladeOn = false ∧ s.pw.vbat = false ∧ s.pw.bus = false ∧ s.pw.field = false) ∧
    (∃ (s : State), (s.pw.gladeOn = true ∨ s.pw.vbat = true ∨ s.pw.bus = true ∨ s.pw.field = true)) :=
  ⟨⟨full, by decide +kernel⟩,
   ⟨full, by decide +kernel⟩,
   ⟨{ full with pw := { full.pw with vbat := false, bus := false, field := false, mode := .backup } }, by decide +kernel⟩,
   ⟨{ full with pw := { full.pw with vbat := false, bus := false, field := false, mode := .off, gladeOn := false } }, by decide +kernel⟩,
   ⟨full, by decide +kernel⟩⟩

/-- The hypotheses of each clause of Starts can be met. -/
theorem witness_Starts :
    (∃ (s : State), s.pw.vbat = false ∧ (s.pw.mode = .off ∨ s.pw.mode = .backup ∨ s.pw.mode = .duskHold)) ∧
    (∃ (s : State), s.pw.mode = .readout) ∧
    (∃ (s : State) (bus : Bool) (field : Bool), (bus = true ∨ field = true) ∧ s.pw.vbat = false ∧ (s.pw.mode = .off ∨ s.pw.mode = .backup ∨ s.pw.mode
      = .duskHold)) ∧
    (∃ (s : State), s.pw.vbat = false ∧ (s.pw.mode = .chipReset ∨ s.pw.mode = .testHold)) ∧
    (∃ (s : State), s.ports.vioOk = true ∧ s.pw.mode ≠ .off ∧ s.pw.mode ≠ .chipReset) ∧
    (∃ (s : State), s.pw.mode = .chipReset ∧ obj s Obj.SealState ≠ 1) ∧
    (∃ (s : State), s.pw.mode = .chipReset ∧ s.pw.vbat = true) ∧
    (∃ (s : State), s.pw.mode = .chipReset ∧ s.pw.vbat = true ∧ obj s Obj.SealState = 1) ∧
    (∃ (s : State), s.pw.mode = .chipReset ∧ s.pw.vbat = false ∧ (s.pw.bus = true ∨ s.pw.field = true)) ∧
    (∃ (s : State), s.pw.mode = .chipReset ∧ s.pw.vbat = false ∧ s.pw.bus = false ∧ s.pw.field = false) :=
  ⟨⟨{ full with pw := { full.pw with vbat := false, mode := .off } }, by decide +kernel⟩,
   ⟨{ full with pw := { full.pw with vbat := false, mode := .readout } }, by decide +kernel⟩,
   ⟨{ full with pw := { full.pw with vbat := false, mode := .backup } }, true, false, by decide +kernel⟩,
   ⟨{ full with pw := { full.pw with vbat := false, mode := .chipReset } }, by decide +kernel⟩,
   ⟨full, by decide +kernel⟩,
   ⟨{ full with pw := { full.pw with mode := .chipReset } }, by decide +kernel⟩,
   ⟨{ full with pw := { full.pw with mode := .chipReset } }, by decide +kernel⟩,
   ⟨{ setObj full Obj.SealState 1 with pw := { full.pw with mode := .chipReset } }, by decide +kernel⟩,
   ⟨{ full with pw := { full.pw with mode := .chipReset, vbat := false } }, by decide +kernel⟩,
   ⟨{ full with pw := { full.pw with mode := .chipReset, vbat := false, bus := false, field := false } }, by decide +kernel⟩⟩

/-- The hypotheses of each clause of SourcesAndPorts can be met. -/
theorem witness_SourcesAndPorts :
    (∃ (s : State), s.pw.bus = false) ∧
    (∃ (s : State), s.pw.bus = true) ∧
    (∃ (s : State), s.pw.bus = true) ∧
    (∃ (s : State), s.ports.vioOk = true) ∧
    (∃ (s : State), coreUp s = true ∧ s.pw.vbat = true ∧ s.pw.low = false) ∧
    (∃ (s : State), s.pw.mode = .transport) ∧
    (∃ (s : State), s.ports.vioOk = true ∧ portsDead s = false) ∧
    (∃ (s : State), s.ports.vioOk = true) ∧
    (∃ (s : State), s.pw.bus = true ∧ s.lm.running = false) ∧
    (∃ (s : State), s.pw.field = true) ∧
    (∃ (s : State), mget s.ports.inReset 1 false = true ∧ portsDead s = false) ∧
    (∃ (s : State), mget s.ports.inReset 2 false = true ∧ s.lm.running = true) ∧
    (∃ (s : State), mget s.ports.inReset 2 false = true ∧ portsDead s = false ∧ s.lm.running = false) ∧
    (∃ (s : State), mget s.ports.inReset 3 false = true ∧ portsDead s = false) :=
  ⟨⟨{ full with pw := { full.pw with bus := false } }, by decide +kernel⟩,
   ⟨full, by decide +kernel⟩,
   ⟨full, by decide +kernel⟩,
   ⟨full, by decide +kernel⟩,
   ⟨full, by decide +kernel⟩,
   ⟨{ full with pw := { full.pw with mode := .transport } }, by decide +kernel⟩,
   ⟨full, by decide +kernel⟩,
   ⟨full, by decide +kernel⟩,
   ⟨full, by decide +kernel⟩,
   ⟨full, by decide +kernel⟩,
   ⟨{ full with ports := { full.ports with inReset := [(1, true), (2, true), (3, true)] } }, by decide +kernel⟩,
   ⟨{ resetting with lm := { full.lm with running := true } }, by decide +kernel⟩,
   ⟨resetting, by decide +kernel⟩,
   ⟨{ full with ports := { full.ports with inReset := [(1, true), (2, true), (3, true)] } }, by decide +kernel⟩⟩

/-- The hypotheses of each clause of EnergyBudget can be met. -/
theorem witness_EnergyBudget :
    (∃ (s : State), coreUp s = true) ∧
    (∃ (s : State), coreUp s = true) ∧
    (∃ (s : State) (n : Nat), coreUp s = true ∧ 900 < n) ∧
    (∃ (s : State) (n : Nat), coreUp s = true ∧ n ≤ 900 ∧ obj s Obj.VcoreSetting < n) ∧
    (∃ (s : State) (n : Nat), coreUp s = true ∧ n ≤ 900 ∧ n ≤ obj s Obj.VcoreSetting) :=
  ⟨⟨full, by decide +kernel⟩,
   ⟨full, by decide +kernel⟩,
   ⟨full, 901, by decide +kernel⟩,
   ⟨setObj full Obj.VcoreSetting 700, 900, by decide +kernel⟩,
   ⟨full, 700, by decide +kernel⟩⟩

/-- The hypotheses of each clause of LfSources can be met. -/
theorem witness_LfSources :
    (∃ (s : State), gladeRuns s = true) ∧
    (∃ (s : State) (e : Int) (l : LfSrc), gladeRuns s = true ∧ s.clk.watch = some l ∧ s.clk.returnDay = none ∧ s.clk.retired.contains l = false ∧ (l
      = .xl2 → obj s Obj.Xl2Fitted = 1) ∧ (e + compOf s l (objI 2 s Obj.DieTemperature)).natAbs ≤ obj s Obj.LfFaultLimit * 100) ∧
    (∃ (s : State) (e : Int) (l : LfSrc), gladeRuns s = true ∧ s.clk.watch = some l ∧ obj s Obj.LfFaultLimit * 100 < (e + compOf s l (objI 2 s
      Obj.DieTemperature)).natAbs) ∧
    (∃ (s : State) (l : LfSrc), gladeRuns s = true ∧ s.clk.watch = some l ∧ (s.clk.retired.contains l = true ∨ l = .xl2 ∧ obj s Obj.Xl2Fitted ≠ 1)) ∧
    (∃ (s : State) (l : LfSrc), gladeRuns s = true ∧ s.clk.testing = some l ∧ (l = .xl2 → obj s Obj.Xl2Fitted = 1)) ∧
    (∃ (s : State), gladeRuns s = true ∧ s.clk.testing = some .xl2 ∧ obj s Obj.Xl2Fitted ≠ 1) ∧
    (∃ (s : State), gladeRuns s = true ∧ s.clk.testing = some .xtal ∧ xl2Wanted s = true) :=
  ⟨⟨full, by decide +kernel⟩,
   ⟨{ setObj full Obj.Xl2Fitted 1 with clk := { full.clk with watch := some .xl2 } }, 0, .xl2, by decide +kernel⟩,
   ⟨{ full with clk := { full.clk with watch := some .xtal } }, 100000000, .xtal, by decide +kernel⟩,
   ⟨{ full with clk := { full.clk with watch := some .xl2 } }, .xl2, by decide +kernel⟩,
   ⟨full, .xtal, by decide +kernel⟩,
   ⟨{ full with clk := { full.clk with testing := some .xl2 } }, by decide +kernel⟩,
   ⟨setObj full Obj.Xl2Fitted 1, by decide +kernel⟩⟩

/-- The hypotheses of each clause of ClocksAndNoon can be met. -/
theorem witness_ClocksAndNoon :
    (∃ (s : State) (temp : Int), coreUp s = true ∧ -32768 ≤ temp ∧ temp ≤ 32767) ∧
    (∃ (s : State), coreUp s = true ∧ s.clk.cclk ≠ .stopped) ∧
    (∃ (s : State), coreUp s = true) ∧
    (∃ (s : State), s.clk.cclk ≠ .stopped ∧ workPending s = false) ∧
    (∃ (s : State) (gate : Nat) (periods : Nat), s.clk.hfMeasuring = true ∧ hfStamped s = true ∧ (hfError gate periods (objI 4 s
      Obj.RtcTotalTrim)).natAbs < 2 ^ 31) ∧
    (∃ (s : State), isFull s = true ∧ s.tally.noonDates.contains (localDay s).toNat = false ∧ (obj s Obj.NoonPassTime : Int) ≤ localMinute s ∧ (∀ d
      n, s.tally.noonHold = some (d, n) → d ≠ (localDay s).toNat ∨ n + 64 * 32768 ≤ ticks s)) ∧
    (∃ (s : State), s.tally.noonDates.contains (localDay s).toNat = true) ∧
    (∃ (s : State) (n : Nat), s.tally.noonHold = some ((localDay s).toNat, n) ∧ ticks s < n + 64 * 32768) ∧
    (∃ (s : State), coreUp s = true) :=
  ⟨⟨full, -32768, by decide +kernel⟩,
   ⟨full, by decide +kernel⟩,
   ⟨full, by decide +kernel⟩,
   ⟨setObj full Obj.MarginSummary (marginSummary full), by decide +kernel⟩,
   ⟨{ full with clk := { full.clk with hfMeasuring := true } }, 64000000, 1, by decide +kernel⟩,
   ⟨{ full with rtc := { full.rtc with bin := 757468799 * 2 ^ 48 } },
     by decide +kernel, by decide +kernel, by decide +kernel, fun d n h => by cases h⟩,
   ⟨{ full with tally := { full.tally with noonDates := [8766] } }, by decide +kernel⟩,
   ⟨{ full with tally := { full.tally with noonHold := some ((localDay full).toNat, (4095000 : Nat)) } }, 4095000, rfl, by decide +kernel⟩,
   ⟨full, by decide +kernel⟩⟩

/-- The hypotheses of each clause of StoreArbiter can be met. -/
theorem witness_StoreArbiter :
    (∃ (s : State) (q : Requester), coreUp s = true ∧ frozen s = false ∧ mayTakeTag s q = true) ∧
    (∃ (s : State) (q : Requester), coreUp s = true ∧ frozen s = false ∧ mayTakeTag s q = false) ∧
    (∃ (s : State) (w : Waiting), coreUp s = true ∧ s.front.xfer = none ∧ s.front.source = [] ∧ mayGrant s = true ∧ queuesFull s = false ∧
      s.front.waiting.contains w = true ∧ (s.front.waiting.all fun x => decide (x = w) || (classU s w.req && !classU s x.req) || ((classU s w.req ==
      classU s x.req) && (decide (ageOf s x < ageOf s w) || (decide (ageOf s x = ageOf s w) && decide (w.req.rank < x.req.rank))))) = true) ∧
    (∃ (s : State) (q : Requester) (n : Nat) (k : Nat) (v : Nat) (locked : Bool) (d : ObjDef), s.front.xfer = some ⟨q, n, locked, .setKey k v⟩ ∧
      rowOf k = some d ∧ v < 256 ^ d.size) :=
  ⟨⟨full, .vicinity, by decide +kernel⟩,
   ⟨{ full with front := { full.front with waiting := (List.range 24).map (fun i => waits .spi i) } }, .spi, by decide +kernel⟩,
   ⟨{ full with front := { full.front with waiting := [waits .spi 0, waits .tally 1] } }, waits .tally 1, by decide +kernel⟩,
   ⟨{ full with front := { full.front with xfer := some ⟨.mac, 1, true, .setKey Obj.LongWaitThreshold 20⟩ } }, .mac, 1, Obj.LongWaitThreshold, 20,
     true, rowAt Obj.LongWaitThreshold, by decide +kernel⟩⟩

/-- The hypotheses of each clause of ArbiterLimits can be met. -/
theorem witness_ArbiterLimits :
    (∃ (s : State) (q : Requester) (n : Nat) (k : Nat) (v : Nat), s.front.xfer = some ⟨q, n, false, .setKey k v⟩ ∧ classU s q = false ∧
      s.front.waiting.any (fun w => classU s w.req) = true ∧ mayGrant s = true) ∧
    (∃ (s : State) (q : Requester) (n : Nat) (k : Nat) (v : Nat) (locked : Bool), s.front.xfer = some ⟨q, n, locked, .setKey k v⟩ ∧ 128 < n) ∧
    (∃ (s : State) (q : Requester), s.front.waiting.any (longWaiting s q) = true) ∧
    (∃ (s : State) (r : Route) (sq : Seq), mfind s.ports.seqs r.slot = some sq ∧ lockWaiter s r.slot = true ∧ obj s Obj.LockLimit * 32768 ≤
      sq.lockTicks * 1000 ∧ commitInCore s sq.owner = false) ∧
    (∃ (s : State), obj s Obj.ArbiterFreeze = 2 ∧ s.ports.seqs = []) ∧
    (∃ (s : State), obj s Obj.ArbiterFreeze ≠ 0 ∧ obj s Obj.FreezeLimit * 32768 ≤ s.front.freezeTicks * 1000) ∧
    (∃ (s : State), pendingOf s .arbiter = true ∧ s.front.xfer = none ∧ rising s.pend = true) :=
  ⟨⟨{ full with front := { full.front with xfer := some ⟨.mac, 1, false, .setKey Obj.LongWaitThreshold 20⟩, waiting := [waits .tally 1] } }, .mac, 1,
     Obj.LongWaitThreshold, 20, by decide +kernel⟩,
   ⟨{ full with front := { full.front with xfer := some ⟨.mac, 129, true, .setKey Obj.LongWaitThreshold 20⟩ } }, .mac, 129, Obj.LongWaitThreshold,
     20, true, by decide +kernel⟩,
   ⟨{ full with front := { full.front with waiting := [waits .repair 1] } }, .repair, by decide +kernel⟩,
   ⟨{ setObj full Obj.ArbiterFreeze 2 with ports := { full.ports with seqs := [(1, ⟨.spi, [], 100000000⟩)] } }, .spi, ⟨.spi, [], 100000000⟩,
     by decide +kernel⟩,
   ⟨setObj full Obj.ArbiterFreeze 2, by decide +kernel⟩,
   ⟨{ setObj full Obj.ArbiterFreeze 1 with front := { full.front with freezeTicks := 100000000 } }, by decide +kernel⟩,
   ⟨{ full with pend := [(Obj.StoreClass 1, 1)], pendBlocks := [.arbiter] }, by decide +kernel⟩⟩

/-- The hypotheses of each clause of JournalWriter can be met. -/
theorem witness_JournalWriter :
    (∃ (s : State) (u : Nat) (w : Nat), coreUp s = true ∧ u < 204 ∧ 12 ≤ w ∧ w < 512 ∧ wordErased s u w = true) ∧
    (∃ (s : State) (u : Nat) (w : Nat), coreUp s = true ∧ u < 204 ∧ 12 ≤ w ∧ w < 512 ∧ wordErased s u w = false) ∧
    (∃ (s : State) (p : Payload) (ps : List Payload), coreUp s = true ∧ s.pw.mode ≠ .readout ∧ s.flash.work = none ∧ s.flash.torn = false ∧
      s.flash.unitRecs = p :: ps) ∧
    (∃ (s : State) (r : Rec) (l : List Rec), coreUp s = true ∧ s.pw.mode ≠ .readout ∧ s.flash.work = none ∧ s.flash.torn = false ∧ s.flash.unitRecs =
      [] ∧ s.tally.fifo = [] ∧ 2 ≤ journalErased s ∧ s.flash.commits = r :: l) ∧
    (∃ (s : State) (u : Nat) (r : Rec) (es : List (Nat × Nat)), s.flash.work = some (.record r) ∧ journalUnit s (recWords r + 3) = some u ∧ r.payload
      = .data es ∧ s.pw.mode ≠ .readout ∧ s.flash.breakTxn ≠ some r.txn ∧ (∃ v ∈ journalUnits s, v ≠ u ∧ isErased s v = true)) ∧
    (∃ (s : State) (u : Nat) (r : Rec), s.flash.work = some (.record r) ∧ journalUnit s (recWords r + 3) = some u) ∧
    (∃ (s : State) (u : Nat) (n : Nat), s.flash.work = some (.erase u n) ∧ n < 16) ∧
    (∃ (s : State) (u : Nat) (n : Nat), s.flash.work = some (.erase u n) ∧ n < 19) :=
  ⟨⟨full, 203, 511, by decide +kernel⟩,
   ⟨{ full with flash := { full.flash with raw := [(12, 0)] } }, 0, 12, by decide +kernel⟩,
   ⟨{ full with flash := { full.flash with unitRecs := [.checkpoint 1 1] } }, .checkpoint 1 1, [], by decide +kernel⟩,
   ⟨inFlash full (fun x => { x with commits := [(⟨1, 0, true, .data [(Obj.VduskThreshold, 2100)], []⟩ : Rec)] }), ⟨1, 0, true, .data
     [(Obj.VduskThreshold, 2100)], []⟩, [], by decide +kernel⟩,
   ⟨inFlash full (fun x => { x with work := some (.record (⟨1, 0, true, .data [(Obj.VduskThreshold, 2100)], []⟩ : Rec)) }), (journalUnit (inFlash
     full (fun x => { x with work := some (.record (⟨1, 0, true, .data [(Obj.VduskThreshold, 2100)], []⟩ : Rec)) })) (recWords (⟨1, 0, true, .data
     [(Obj.VduskThreshold, 2100)], []⟩ : Rec) + 3)).getD 0, ⟨1, 0, true, .data [(Obj.VduskThreshold, 2100)], []⟩, [(Obj.VduskThreshold, 2100)],
     by decide +kernel⟩,
   ⟨inFlash full (fun x => { x with work := some (.record (⟨1, 0, true, .checkpoint 1 1, []⟩ : Rec)) }), (journalUnit (inFlash full (fun x =>
     { x with work := some (.record (⟨1, 0, true, .checkpoint 1 1, []⟩ : Rec)) })) (recWords (⟨1, 0, true, .checkpoint 1 1, []⟩ : Rec) + 3)).getD 0,
     ⟨1, 0, true, .checkpoint 1 1, []⟩, by decide +kernel⟩,
   ⟨{ full with flash := { full.flash with work := some (.erase 9 15) } }, 9, 15, by decide +kernel⟩,
   ⟨{ full with flash := { full.flash with work := some (.erase 9 18) } }, 9, 18, by decide +kernel⟩⟩

/-- The hypotheses of each clause of TimerArbiter can be met. -/
theorem witness_TimerArbiter :
    (∃ (s : State), isFull s = true ∧ s.pw.hfFailed = false ∧ s.tdc.calibrating = false ∧ s.tdc.grant = none ∧ s.tdc.waiting ≠ [] ∧ obj s Obj.TdcMode
      ≠ 2 ∧ batchDue s = true ∧ 2 ≤ (tdcActive s).length) ∧
    (∃ (s : State) (q : TimerReq) (k : Nat), isFull s = true ∧ s.pw.hfFailed = false ∧ s.tdc.calibrating = false ∧ s.tdc.grant = none ∧ obj s
      Obj.TdcMode ≠ 2 ∧ batchDue s = false ∧ (s.tdc.waiting = [(q, k)] ∨ q = .sequencer ∧ s.tdc.waiting.any (fun w => w.1 == .sequencer) = true)) ∧
    (∃ (s : State) (a : CalSums) (b : CalSums), s.tdc.calibrating = true ∧ s.tdc.retried = false ∧ s.tdc.retest = [] ∧ obj s Obj.TdcMode = 0 ∧
      tdcActive s = [0, 1] ∧ calPasses (obj s Obj.TdcCalAverage) a = true ∧ calPasses (obj s Obj.TdcCalAverage) b = true) ∧
    (∃ (s : State) (a : CalSums), s.tdc.calibrating = true ∧ s.tdc.retried = false ∧ s.tdc.waiting ≠ [] ∧ tdcActive s = [0, 1] ∧ calPasses (obj s
      Obj.TdcCalAverage) a = false) ∧
    (∃ (s : State) (a : CalSums) (b : CalSums), s.tdc.calibrating = true ∧ s.tdc.retried = false ∧ s.tdc.retest = [] ∧ s.tdc.waiting = [] ∧ obj s
      Obj.TdcMode = 0 ∧ tdcActive s = [0, 1] ∧ obj s (Obj.TdcPairState 3) = 1 ∧ mget s.tdc.failRun 0 0 = 2 ∧ calPasses (obj s Obj.TdcCalAverage) a =
      false ∧ calPasses (obj s Obj.TdcCalAverage) b = true) ∧
    (∃ (s : State) (g : Grant), s.tdc.grant = some g ∧ g.req ≠ .sequencer ∧ s.tdc.waiting.any (fun w => w.1 == .sequencer) = true) :=
  ⟨⟨inTdc full (fun x => { x with cals := [], waiting := [(.pulse, 0)] }), by decide +kernel⟩,
   ⟨{ full with tdc := { full.tdc with batch := true, waiting := [(.pulse, 0), (.sequencer, 1)] } }, .sequencer, 1, by decide +kernel⟩,
   ⟨{ full with tdc := { full.tdc with calibrating := true, waiting := [(.pulse, 0)] } }, ⟨0, 3000 * obj
     ({ full with tdc := { full.tdc with calibrating := true, waiting := [(.pulse, 0)] } }) Obj.TdcCalAverage, 0, 0⟩, ⟨0, 3200 * obj
     ({ full with tdc := { full.tdc with calibrating := true, waiting := [(.pulse, 0)] } }) Obj.TdcCalAverage, 0, 0⟩, by decide +kernel⟩,
   ⟨{ full with tdc := { full.tdc with calibrating := true, waiting := [(.pulse, 0)] } }, ⟨0, 0, 0, 7⟩, by decide +kernel⟩,
   ⟨{ full with tdc := { full.tdc with calibrating := true, failRun := [(0, 2)] } }, ⟨0, 0, 0, 7⟩, ⟨0, 3200 * obj
     ({ full with tdc := { full.tdc with calibrating := true, failRun := [(0, 2)] } }) Obj.TdcCalAverage, 0, 0⟩, by decide +kernel⟩,
   ⟨inTdc full (fun x => { x with grant := some (grantOf .pulse [] none), waiting := [(.sequencer, 1)] }), grantOf .pulse [] none, by decide +kernel⟩⟩

/-- The hypotheses of each clause of HitsAndFin can be met. -/
theorem witness_HitsAndFin :
    (∃ (s : State) (g : Grant) (coarse : Nat) (count : Nat) (p : Nat), s.tdc.grant = some g ∧ 2 ≤ coarse ∧ coarse < 2 ^ 20 ∧ g.hits.length <
      hitsWanted s g.req ∧ pairFor s g.hits.length = some p ∧ heldOff s g (hitTime (resultOn s p coarse count)) = false ∧ pairBusy g p (hitTime
      (resultOn s p coarse count)) = false) ∧
    (∃ (s : State) (g : Grant) (coarse : Nat) (count : Nat) (p : Nat), s.tdc.grant = some g ∧ 2 ≤ coarse ∧ coarse < 2 ^ 20 ∧ g.hits.length <
      hitsWanted s g.req ∧ pairFor s g.hits.length = some p ∧ heldOff s g (hitTime (resultOn s p coarse count)) = false ∧ pairBusy g p (hitTime
      (resultOn s p coarse count)) = true) ∧
    (∃ (s : State) (g : Grant), s.tdc.grant = some g ∧ g.hits.length < hitsWanted s g.req ∧ (g.req ≠ .frequency ∨ g.stamp.isSome = true)) ∧
    (∃ (s : State) (g : Grant) (p : Nat) (up : Bool) (rest : List (Nat × Bool)), s.tdc.grant = some g ∧ g.req = .sequencer ∧ s.acou.plan = (p, up) ::
      rest) ∧
    (∃ (s : State) (g : Grant) (f : FinRun) (h : Hit), s.tdc.grant = some g ∧ g.req = .frequency ∧ g.stamp = none ∧ s.tdc.fin = some f ∧ f.t0 = none
      ∧ g.hits = [h] ∧ h.valid = true) ∧
    (∃ (s : State) (g : Grant) (t0 : Nat) (f : FinRun) (h : Hit), s.tdc.grant = some g ∧ g.req = .frequency ∧ g.stamp = none ∧ s.tdc.fin = some f ∧
      f.t0 = some t0 ∧ g.hits = [h] ∧ h.valid = true) ∧
    (∃ (s : State), isFull s = true ∧ obj s Obj.FinEnable = 1 ∧ s.tdc.fin = none ∧ obj s Obj.TdcMode ≠ 2) ∧
    (∃ (s : State) (t0 : Nat) (start : Nat) (n : Nat), s.tdc.fin = some ⟨start, some t0, none, n⟩ ∧ obj s Obj.TdcMode ≠ 2) ∧
    (∃ (s : State) (f : FinRun), s.tdc.fin = some f ∧ finLate s f = true) :=
  ⟨⟨inTdc full (fun x => { x with grant := some (grantOf .sequencer [] none) }), grantOf .sequencer [] none, 1048575, 0, 0, by decide +kernel⟩,
   ⟨inTdc full (fun x => { x with grant := some ({ grantOf .sequencer [] none with lastOn := [(0, 1048575 * 65536)] } : Grant) }),
     { grantOf .sequencer [] none with lastOn := [(0, 1048575 * 65536)] }, 1048575, 0, 0, by decide +kernel⟩,
   ⟨inTdc full (fun x => { x with grant := some (grantOf .frequency [] (some .hfFirst)) }), grantOf .frequency [] (some .hfFirst), by decide +kernel⟩,
   ⟨{ inTdc full (fun x => { x with grant := some (grantOf .sequencer [] none) }) with acou := { full.acou with plan := [(3, true)] } }, grantOf
     .sequencer [] none, 3, true, [], by decide +kernel⟩,
   ⟨inTdc full (fun x => { x with fin := some (⟨0, none, none, 0⟩ : FinRun), grant := some (grantOf .frequency [⟨true, false, 0, 5, 9, 0⟩] none) }),
     grantOf .frequency [⟨true, false, 0, 5, 9, 0⟩] none, ⟨0, none, none, 0⟩, ⟨true, false, 0, 5, 9, 0⟩, by decide +kernel⟩,
   ⟨inTdc full (fun x =>
     { x with fin := some (⟨0, some 70000, some 0, 0⟩ : FinRun), grant := some (grantOf .frequency [⟨true, false, 0, 5, 9, 0⟩] none) }), grantOf
     .frequency [⟨true, false, 0, 5, 9, 0⟩] none, 70000, ⟨0, some 70000, some 0, 0⟩, ⟨true, false, 0, 5, 9, 0⟩, by decide +kernel⟩,
   ⟨setObj full Obj.FinEnable 1, by decide +kernel⟩,
   ⟨{ full with tdc := { full.tdc with fin := some ⟨4, some 5, none, 1⟩ } }, 5, 4, 1, by decide +kernel⟩,
   ⟨{ full with tdc := { full.tdc with fin := some ⟨4, none, none, 1⟩ } }, ⟨4, none, none, 1⟩, by decide +kernel⟩⟩

/-- The hypotheses of each clause of AcousticCycle can be met. -/
theorem witness_AcousticCycle :
    (∃ (s : State), isFull s = true ∧ s.acou.running = false ∧ obj s Obj.TdcMode ≠ 2 ∧ s.pw.hfFailed = false ∧ s.temp.firstDue = false) ∧
    (∃ (s : State), isFull s = true ∧ s.acou.running = false ∧ obj s Obj.TdcMode ≠ 2 ∧ s.pw.hfFailed = false ∧ s.temp.firstDue = true) ∧
    (∃ (s : State), isFull s = true ∧ s.acou.running = true) ∧
    (∃ (s : State), isFull s = true ∧ s.acou.running = false ∧ (obj s Obj.TdcMode = 2 ∨ s.pw.hfFailed = true)) ∧
    (∃ (s : State), 8 ≤ s.acou.ownTicks ∧ getBit s Obj.CycleStatus 0 = true) ∧
    (∃ (s : State), s.acou.running = true ∧ s.acou.plan ≠ [] ∧ s.tdc.grant = none ∧ obj s Obj.TdcMode ≠ 2) ∧
    (∃ (s : State), s.acou.running = true ∧ s.acou.plan = [] ∧ shotOut s = false) :=
  ⟨⟨full, by decide +kernel⟩,
   ⟨{ full with temp := { full.temp with firstDue := true } }, by decide +kernel⟩,
   ⟨{ full with acou := { full.acou with running := true } }, by decide +kernel⟩,
   ⟨{ full with pw := { full.pw with hfFailed := true } }, by decide +kernel⟩,
   ⟨{ setObj full Obj.CycleStatus 1 with acou := { full.acou with ownTicks := 8 } }, by decide +kernel⟩,
   ⟨{ full with acou := { full.acou with running := true, plan := [(0, true)] } }, by decide +kernel⟩,

     ⟨{ full with acou := { full.acou with running := true, shots := [⟨0, true, 4000000, 200, false, false, false, false⟩, ⟨0, false, 4000000, 200, false, false, false, false⟩] } },
     by decide +kernel⟩⟩

/-- The hypotheses of each clause of PathVerdicts can be met. -/
theorem witness_PathVerdicts :
    (∃ (s : State) (p : Fin 4), 3 ≤ (loopOf s p.val).skipUp) ∧
    (∃ (s : State) (p : Fin 4), 3 ≤ (loopOf s p.val).skipDown) ∧
    (∃ (s : State) (p : Fin 4), s.acou.running = true ∧ s.acou.plan.any (fun e => decide (e.1 = p.val)) = true) ∧
    (∃ (s : State) (p : Fin 4), obj s Obj.PathFailCycles ≤ (loopOf s p.val).badRun ∧ getBit s (Obj.PathStatus (p.val + 1)) 6 = false ∧ pathServed s
      p.val = false) ∧
    (∃ (s : State) (p : Fin 4), 64 ≤ (loopOf s p.val).goodRun ∧ getBit s (Obj.PathStatus (p.val + 1)) 6 = true ∧ getBit s (Obj.PathStatus (p.val +
      1)) 4 = false ∧ getBit s (Obj.PathStatus (p.val + 1)) 5 = false) ∧
    (∃ (s : State) (p : Fin 4), 1024 ≤ (loopOf s p.val).lowRun ∧ (loopOf s p.val).lowLogged = false) ∧
    (∃ (s : State) (n : Nat), s.acou.capture = some n ∧ 8 ≤ n ∧ s.acou.running = false) :=
  ⟨⟨{ full with acou := { full.acou with loops := [(3, ⟨0, 0, 0, 0, false, 0, 3, 3, 40, 64, 1024, false, 8, 9⟩)] } }, 3, by decide +kernel⟩,
   ⟨{ full with acou := { full.acou with loops := [(3, ⟨0, 0, 0, 0, false, 0, 3, 3, 40, 64, 1024, false, 8, 9⟩)] } }, 3, by decide +kernel⟩,
   ⟨{ full with acou := { full.acou with running := true, plan := [(0, true)] } }, 0, by decide +kernel⟩,
   ⟨{ full with acou := { full.acou with loops := [(3, ⟨0, 0, 0, 0, false, 0, 3, 3, 40, 64, 1024, false, 8, 9⟩)] } }, 3, by decide +kernel⟩,
   ⟨{ setObj full (Obj.PathStatus 4) 64 with acou := { full.acou with loops := [(3, ⟨0, 0, 0, 0, false, 0, 3, 3, 40, 64, 1024, false, 8, 9⟩)] } }, 3,
     by decide +kernel⟩,
   ⟨{ full with acou := { full.acou with loops := [(3, ⟨0, 0, 0, 0, false, 0, 3, 3, 40, 64, 1024, false, 8, 9⟩)] } }, 3, by decide +kernel⟩,
   ⟨{ full with acou := { full.acou with capture := some 8 } }, 8, by decide +kernel⟩⟩

/-- The hypotheses of each clause of FlowEvents can be met. -/
theorem witness_FlowEvents :
    (∃ (s : State) (t0 : Nat), s.flow.revSince = some t0 ∧ obj s Obj.ReverseAlarmTime * 32768 ≤ ticks s - t0 ∧ getBit s Obj.FlowStatus 5 = false) ∧
    (∃ (s : State) (t0 : Nat), s.flow.revClear = some t0 ∧ obj s Obj.ReverseAlarmTime * 32768 ≤ ticks s - t0 ∧ getBit s Obj.FlowStatus 5 = true) ∧
    (∃ (s : State), 64 ≤ s.flow.sosRun ∧ getBit s Obj.FlowStatus 6 = false) ∧
    (∃ (s : State) (t0 : Nat), s.flow.holdSince = some t0 ∧ obj s Obj.ZeroAdaptHold * 32768 ≤ ticks s - t0 ∧ s.flow.adapting = false ∧ s.flow.zeroCal
      = none ∧ s.flow.diffs.all (fun e => decide (e.1 < 4)) = true) ∧
    (∃ (s : State) (z : ZeroCal), s.flow.zeroCal = some z ∧ z.left = 0 ∧ (enabledPaths s).any (fun q => decide (mget z.counts q 0 < 56)) = true) ∧
    (∃ (s : State) (z : ZeroCal), s.flow.zeroCal = some z ∧ z.left = 0 ∧ (enabledPaths s).any (fun q => decide (mget z.counts q 0 < 56)) = false ∧
      obj s Obj.ZeroOffsetLimit < 2 ^ 31) :=
  ⟨⟨{ full with flow := { full.flow with revSince := some 0 } }, 0, by decide +kernel⟩,
   ⟨{ setObj full Obj.FlowStatus 32 with flow := { full.flow with revClear := some 0 } }, 0, by decide +kernel⟩,
   ⟨{ full with flow := { full.flow with sosRun := 64 } }, by decide +kernel⟩,
   ⟨{ full with rtc := { full.rtc with tk := 10 ^ 6 * 2 ^ 48 }, flow := { full.flow with holdSince := some 0, diffs := [(0, 100), (3, -7)] } }, 0,
     by decide +kernel⟩,
   ⟨{ full with flow := { full.flow with zeroCal := some ⟨0, [], []⟩ } },
     ({ full with flow := { full.flow with zeroCal := some ⟨0, [], []⟩ } }).flow.zeroCal.getD ⟨0, [], []⟩, by decide +kernel⟩,
   ⟨{ full with flow := { full.flow with zeroCal := some ⟨0, [(0, 700)], [(0, 56), (1, 57), (2, 58), (3, 59)]⟩ } },
     ({ full with flow := { full.flow with zeroCal := some ⟨0, [(0, 700)], [(0, 56), (1, 57), (2, 58), (3, 59)]⟩ } }).flow.zeroCal.getD ⟨0, [], []⟩,
     by decide +kernel⟩⟩

/-- The hypotheses of each clause of Temperatures can be met. -/
theorem witness_Temperatures :
    (∃ (s : State), isFull s = true ∧ s.pw.hfFailed = false ∧ obj s Obj.TdcMode ≠ 2 ∧ s.temp.conv = none ∧ shotsLeft s = false ∧ ticks s % (obj s
      Obj.ConversionInterval * 32768) = 0 ∧ pendingOf s .temperature = false ∧ s.temp.sensorPend = none) ∧
    (∃ (s : State), isFull s = true ∧ s.pw.hfFailed = false ∧ obj s Obj.TdcMode ≠ 2 ∧ s.temp.conv = none ∧ shotsLeft s = true ∧ ticks s % (obj s
      Obj.ConversionInterval * 32768) = 0) ∧
    (∃ (s : State) (c : Conv), s.temp.conv = some c ∧ c.todo = []) ∧
    (∃ (s : State) (role : Nat), s.temp.standbyUsed.contains role = true ∧ 8 ≤ mget s.temp.primaryRun role 0) ∧
    (∃ (s : State) (role : Nat) (p : Nat) (q : Nat), portOf s role = some p ∧ portOf s (role + 2) = some q ∧ 8 ≤ mget s.temp.disagreeRun role 0 ∧
      getBit s (Obj.PortStatus (p + 1)) 5 = false) ∧
    (∃ (s : State) (x : Fin 4), (getBit s (Obj.PortStatus (x.val + 1)) 1 = true ∨ getBit s (Obj.PortStatus (x.val + 1)) 2 = true) ∧ 8 ≤ (portSt s
      x.val).goodRun) ∧
    (∃ (s : State) (x : Fin 4) (t0 : Nat), (portSt s x.val).lastTick = some t0 ∧ 3 * obj s Obj.ConversionInterval * 32768 < ticks s - t0 ∧ obj s
      (Obj.PortRole (x.val + 1)) ≠ 0 ∧ getBit s (Obj.PortStatus (x.val + 1)) 4 = false) :=
  ⟨⟨evenTick, by decide +kernel⟩,
   ⟨{ evenTick with acou := { full.acou with running := true, plan := [(0, true)] } }, by decide +kernel⟩,

     ⟨{ setMany full [(Obj.PortRole 1, 1), (Obj.RefResistance, 1000000)] with temp := { full.temp with conv := some ⟨[], [(0, 1000), (1, 300000), (2, 310000)], [], 0⟩ } },
     ({ setMany full [(Obj.PortRole 1, 1), (Obj.RefResistance, 1000000)] with temp := { full.temp with conv := some ⟨[], [(0, 1000), (1, 300000), (2, 310000)], [], 0⟩ } }).temp.conv.getD
     ⟨[], [], [], 0⟩, by decide +kernel⟩,
   ⟨{ full with temp := { full.temp with standbyUsed := [1], primaryRun := [(1, 8)] } }, 1, by decide +kernel⟩,
   ⟨{ setMany full [(Obj.PortRole 1, 1), (Obj.PortRole 2, 3)] with temp := { full.temp with disagreeRun := [(1, 8)] } }, 1, 0, 1, by decide +kernel⟩,
   ⟨{ setObj full (Obj.PortStatus 4) 4 with temp := { full.temp with ports := [(3, ⟨some 0, 8⟩)] } }, 3, by decide +kernel⟩,
   ⟨{ setObj full (Obj.PortRole 4) 1 with rtc := { full.rtc with tk := 10 ^ 6 * 2 ^ 48 }, temp := { full.temp with ports := [(3, ⟨some 0, 8⟩)] } },
     3, 0, by decide +kernel⟩⟩

/-- The hypotheses of each clause of Electricity can be met. -/
theorem witness_Electricity :
    (∃ (s : State) (period : Nat), elecRuns s = true ∧ noLine s = false ∧ s.elec.blockOpen = true ∧ 45000 ≤ lineFrequency s period ∧ lineFrequency s
      period ≤ 65000) ∧
    (∃ (s : State), elecRuns s = true ∧ noLine s = true) ∧
    (∃ (s : State), elecRuns s = true ∧ s.elec.blockOpen = true ∧ blockOver s = true ∧ pendingOf s .elec = false) ∧
    (∃ (s : State) (xs : List ElecSample) (chB : Bool) (to16 : Bool), elecRuns s = true ∧ gainMaySwitch s (if chB then 2 else 1) to16 xs = true) ∧
    (∃ (s : State) (xs : List ElecSample) (chB : Bool) (to16 : Bool), elecRuns s = true ∧ gainMaySwitch s (if chB then 2 else 1) to16 xs = false) ∧
    (∃ (s : State), elecRuns s = true ∧ s.elec.blockOpen = true) ∧
    (∃ (s : State) (y : ElecSample), elecRuns s = true ∧ fullScale y = true) ∧
    (∃ (s : State), elecRuns s = true ∧ noLine s = false ∧ s.elec.badFreq = true) ∧
    (∃ (s : State), elecRuns s = true ∧ noLine s = true ∧ 10 ≤ s.elec.validCycles) ∧
    (∃ (s : State) (u : Nat), elecRuns s = true ∧ s.elec.excursion = none ∧ u * 10 < bandEdge s (obj s Obj.SagThreshold)) ∧
    (∃ (s : State) (u : Nat), elecRuns s = true ∧ s.elec.excursion = none ∧ bandEdge s (obj s Obj.SagThreshold) ≤ u * 10 ∧ bandEdge s (obj s
      Obj.SwellThreshold) < u * 10) ∧
    (∃ (s : State) (u : Nat) (e : Nat) (n : Nat) (x : Excursion), elecRuns s = true ∧ noLine s = false ∧ s.elec.excursion = some x ∧ x.low = true ∧ 1
      ≤ n ∧ n ≤ 65535 ∧ e < 2 ^ 32 ∧ bandEdge s (obj s Obj.SagThreshold + obj s Obj.VoltageHysteresis) ≤ u * 10 ∧ u * 10 + bandEdge s (obj s
      Obj.VoltageHysteresis) ≤ bandEdge s (obj s Obj.SwellThreshold)) ∧
    (∃ (s : State) (u : Nat) (e : Nat) (n : Nat) (x : Excursion), elecRuns s = true ∧ noLine s = false ∧ s.elec.excursion = some x ∧ x.low = false ∧
      1 ≤ n ∧ n ≤ 65535 ∧ e < 2 ^ 32 ∧ bandEdge s (obj s Obj.SagThreshold + obj s Obj.VoltageHysteresis) ≤ u * 10 ∧ u * 10 + bandEdge s (obj s
      Obj.VoltageHysteresis) ≤ bandEdge s (obj s Obj.SwellThreshold)) :=
  ⟨⟨{ setObj full Obj.ElecEnable 1 with elec := { full.elec with blockOpen := true } }, 640000, by decide +kernel⟩,
   ⟨setMany full [(Obj.ElecEnable, 1), (Obj.ElecStatus, 1)], by decide +kernel⟩,
   ⟨inElec (setObj full Obj.ElecEnable 1) (fun x => { x with blockOpen := true, cycles := 60 }), by decide +kernel⟩,
   ⟨inElec (setObj full Obj.ElecEnable 1) (fun x => { x with peaks := [(2, [419429, 0])] }), [], true, true, by decide +kernel⟩,
   ⟨setMany full [(Obj.ElecEnable, 1), (Obj.CurrentGain 1, 16)], [⟨0, 0, 7340032, 0, 0⟩], false, false, by decide +kernel⟩,
   ⟨inElec (setObj full Obj.ElecEnable 1) (fun x => { x with blockOpen := true }), by decide +kernel⟩,
   ⟨setObj full Obj.ElecEnable 1, ⟨0, 8388607, 0, 0, 0⟩, by decide +kernel⟩,
   ⟨{ setObj full Obj.ElecEnable 1 with elec := { full.elec with badFreq := true } }, by decide +kernel⟩,
   ⟨{ setMany full [(Obj.ElecEnable, 1), (Obj.ElecStatus, 1)] with elec := { full.elec with validCycles := 10 } }, by decide +kernel⟩,
   ⟨setObj full Obj.ElecEnable 1, 0, by decide +kernel⟩,
   ⟨setObj full Obj.ElecEnable 1, 100000000, by decide +kernel⟩,
   ⟨inElec (setObj full Obj.ElecEnable 1) (fun x => { x with excursion := some (⟨5, 6, true⟩ : Excursion) }), 230000, 7, 65535, ⟨5, 6, true⟩,
     by decide +kernel⟩,
   ⟨inElec (setObj full Obj.ElecEnable 1) (fun x => { x with excursion := some (⟨5, 6, false⟩ : Excursion) }), 230000, 4294967295, 1, ⟨5, 6, false⟩,
     by decide +kernel⟩⟩

/-- The hypotheses of each clause of Pulses can be met. -/
theorem witness_Pulses :
    (∃ (s : State) (p : Fin 4) (level : Bool), inputOn s (p.val + 1) = true ∧ (pulseIn s (p.val + 1)).masked = false ∧ inQuad s (p.val + 1) = false ∧
      level = countLevel s (p.val + 1) ∧ (pulseIn s (p.val + 1)).holdOff = false ∧ obj s (Obj.PulseDebounce (p.val + 1)) ≠ 0) ∧
    (∃ (s : State) (p : Fin 4) (level : Bool), inputOn s (p.val + 1) = true ∧ (pulseIn s (p.val + 1)).masked = false ∧ inQuad s (p.val + 1) = false ∧
      level = countLevel s (p.val + 1) ∧ (pulseIn s (p.val + 1)).holdOff = true) ∧
    (∃ (s : State) (p : Fin 4) (level : Bool), inputOn s (p.val + 1) = true ∧ (pulseIn s (p.val + 1)).captured = true ∧ inQuad s (p.val + 1) = false
      ∧ level = countLevel s (p.val + 1)) ∧
    (∃ (s : State) (p : Fin 4) (level : Bool), inputOn s (p.val + 1) = true ∧ (pulseIn s (p.val + 1)).captured = true ∧ level ≠ countLevel s (p.val +
      1)) ∧
    (∃ (s : State) (p : Fin 4), inputOn s (p.val + 1) = true ∧ (pulseIn s (p.val + 1)).captured = true ∧ inQuad s (p.val + 1) = true ∧ p.val % 2 = 0) ∧
    (∃ (s : State) (p : Fin 4), inputOn s (p.val + 1) = true ∧ (pulseIn s (p.val + 1)).captured = true ∧ inQuad s (p.val + 1) = true ∧ p.val % 2 = 1) ∧
    (∃ (s : State) (p : Fin 4), inputOn s (p.val + 1) = true ∧ (pulseIn s (p.val + 1)).masked = false ∧ quadClash s (p.val + 1) = true) ∧
    (∃ (s : State) (p : Fin 4), (pulseIn s (p.val + 1)).holdOff = true) ∧
    (∃ (s : State) (p : Fin 4), inputOn s (p.val + 1) = true ∧ obj s (Obj.PulseInputMode (p.val + 1)) = 3 ∧ (pulseIn s (p.val + 1)).checking = false) ∧
    (∃ (s : State) (p : Fin 4), (pulseIn s (p.val + 1)).checking = true ∧ 1 ≤ (pulseIn s (p.val + 1)).cutRun ∧ getBit s (Obj.PulseInputStatus (p.val
      + 1)) 1 = false) ∧
    (∃ (s : State) (p : Fin 4), (pulseIn s (p.val + 1)).checking = true ∧ (pulseIn s (p.val + 1)).cutRun = 0) ∧
    (∃ (s : State) (p : Fin 4) (level : Bool), (pulseIn s (p.val + 1)).masked = true ∧ (pulseIn s (p.val + 1)).checking = false ∧ level = (pulseIn s
      (p.val + 1)).before) ∧
    (∃ (s : State) (o : Fin 3), (outSt s (o.val + 1)).pulsing = true) ∧
    (∃ (s : State) (o : Fin 3), (outSt s (o.val + 1)).spacing = true ∧ s.ports.vioOk = false) ∧
    (∃ (s : State) (o : Fin 3), (outSt s (o.val + 1)).spacing = true ∧ isFull s = true ∧ s.ports.vioOk = true ∧ 0 < obj s (Obj.PulseOutBacklog (o.val
      + 1))) ∧
    (∃ (s : State) (o : Fin 3), (outSt s (o.val + 1)).spacing = true ∧ obj s (Obj.PulseOutBacklog (o.val + 1)) = 0) :=
  ⟨⟨setObj full (Obj.PulseInputMode 4) 1, 3, countLevel (setObj full (Obj.PulseInputMode 4) 1) ((3 : Fin 4).val + 1), by decide +kernel⟩,
   ⟨{ setObj full (Obj.PulseInputMode 4) 1 with pulse := { full.pulse with ins := [(4, ⟨false, true, none, 0, 0, false, false, false, none⟩)] } }, 3,
     countLevel
     ({ setObj full (Obj.PulseInputMode 4) 1 with pulse := { full.pulse with ins := [(4, ⟨false, true, none, 0, 0, false, false, false, none⟩)] } })
     ((3 : Fin 4).val + 1), by decide +kernel⟩,
   ⟨{ setObj full (Obj.PulseInputMode 4) 1 with pulse := { full.pulse with ins := [(4, ⟨true, false, none, 0, 0, false, false, false, none⟩)] } }, 3,
     countLevel
     ({ setObj full (Obj.PulseInputMode 4) 1 with pulse := { full.pulse with ins := [(4, ⟨true, false, none, 0, 0, false, false, false, none⟩)] } })
     ((3 : Fin 4).val + 1), by decide +kernel⟩,
   ⟨{ setObj full (Obj.PulseInputMode 4) 1 with pulse := { full.pulse with ins := [(4, ⟨true, false, none, 0, 0, false, false, false, none⟩)] } }, 3,
     !countLevel
     ({ setObj full (Obj.PulseInputMode 4) 1 with pulse := { full.pulse with ins := [(4, ⟨true, false, none, 0, 0, false, false, false, none⟩)] } })
     ((3 : Fin 4).val + 1), by decide +kernel⟩,

     ⟨{ setMany full [(Obj.PulseInputMode 1, 1), (Obj.PulseInputMode 2, 1), (Obj.PulseInputMode 3, 1), (Obj.PulseInputMode 4, 1), (Obj.QuadratureEnable, 3)] with pulse := { full.pulse with ins := [(3, ⟨true, false, none, 0, 0, false, false, false, none⟩)] } },
     2, by decide +kernel⟩,

     ⟨{ setMany full [(Obj.PulseInputMode 1, 1), (Obj.PulseInputMode 2, 1), (Obj.PulseInputMode 3, 1), (Obj.PulseInputMode 4, 1), (Obj.QuadratureEnable, 3)] with pulse := { full.pulse with ins := [(4, ⟨true, false, none, 0, 0, false, false, false, none⟩)] } },
     3, by decide +kernel⟩,

     ⟨{ setObj (setMany full [(Obj.PulseInputMode 1, 1), (Obj.PulseInputMode 2, 1), (Obj.PulseInputMode 3, 1), (Obj.PulseInputMode 4, 1), (Obj.QuadratureEnable, 3)]) (Obj.PulseDebounce 3) 20 with pulse := { full.pulse with ins := [(3, ⟨true, false, none, 0, 0, false, false, false, some (ticks full)⟩)] } },
     3, by decide +kernel⟩,
   ⟨{ setObj full (Obj.PulseInputMode 4) 1 with pulse := { full.pulse with ins := [(4, ⟨false, true, none, 0, 0, false, false, false, none⟩)] } }, 3,
     by decide +kernel⟩,
   ⟨setObj full (Obj.PulseInputMode 4) 3, 3, by decide +kernel⟩,
   ⟨{ setObj full (Obj.PulseInputMode 4) 3 with pulse := { full.pulse with ins := [(4, ⟨false, true, none, 1, 0, true, true, false, none⟩)] } }, 3,
     by decide +kernel⟩,
   ⟨{ setObj full (Obj.PulseInputMode 4) 3 with pulse := { full.pulse with ins := [(4, ⟨false, true, none, 0, 0, true, true, false, none⟩)] } }, 3,
     by decide +kernel⟩,
   ⟨{ setObj full (Obj.PulseInputMode 4) 3 with pulse := { full.pulse with ins := [(4, ⟨false, true, none, 0, 0, false, true, false, none⟩)] } }, 3,
     false, by decide +kernel⟩,
   ⟨{ setObj full (Obj.PulseOutBacklog 3) 2 with pulse := { full.pulse with outs := [(3, ⟨true, false, 0⟩)] } }, 2, by decide +kernel⟩,
   ⟨{ full with pulse := { full.pulse with outs := [(3, ⟨false, true, 0⟩)] }, ports := { full.ports with vioOk := false } }, 2, by decide +kernel⟩,
   ⟨{ setObj full (Obj.PulseOutBacklog 3) 2 with pulse := { full.pulse with outs := [(3, ⟨false, true, 0⟩)] } }, 2, by decide +kernel⟩,
   ⟨{ full with pulse := { full.pulse with outs := [(3, ⟨false, true, 0⟩)] } }, 2, by decide +kernel⟩⟩

/-- The hypotheses of each clause of TimeOfDay can be met. -/
theorem witness_TimeOfDay :
    (∃ (s : State) (v : Int) (cause : Nat), s.rtc.pendSet = some (v, cause) ∧ gladeRuns s = true ∧ cause ≤ 2 ∧ 0 ≤ v) ∧
    (∃ (s : State) (v : Int) (cause : Nat), s.rtc.pendSet = some (v, cause) ∧ gladeRuns s = true ∧ 2 < cause) ∧
    (∃ (s : State), gladeRuns s = true ∧ s.rtc.slew ≠ 0 ∧ slewNow s = s.rtc.slew) ∧
    (∃ (s : State), gladeRuns s = true ∧ s.rtc.dayChange < (localDay s).toNat) ∧
    (∃ (s : State), coreUp s = true ∧ obj s Obj.LocalOffsetChangeTime ≠ 0 ∧ obj s Obj.LocalOffsetChangeTime ≤ t48 s) ∧
    (∃ (s : State) (a : Fin 2), gladeRuns s = true ∧ alarmMatches s (a.val + 1) (localSecs s) = true) ∧
    (∃ (s : State), gladeRuns s = true ∧ obj s Obj.PeriodicWake ≠ 0 ∧ s.rtc.wakeStart + obj s Obj.PeriodicWake * 2 ^ 40 ≤ s.rtc.tk) ∧
    (∃ (s : State), coreUp s = true ∧ calendarLast < localSecs s ∧ s.rtc.calEnd = false) ∧
    (∃ (s : State), coreUp s = true ∧ s.rtc.disciplined = true ∧ recentRef s = false) :=
  ⟨⟨{ full with rtc := { full.rtc with pendSet := some (49636000000000, 2) } }, 49636000000000, 2, by decide +kernel⟩,
   ⟨{ full with rtc := { full.rtc with pendSet := some (-700, 3) } }, -700, 3, by decide +kernel⟩,
   ⟨{ full with rtc := { full.rtc with slew := 3 } }, by decide +kernel⟩,
   ⟨full, by decide +kernel⟩,
   ⟨setMany full [(Obj.LocalOffsetChangeTime, 1), (Obj.LocalOffsetNext, 4)], by decide +kernel⟩,
   ⟨setObj full (Obj.AlarmSetting 2) 0x01000000000000, 1, by decide +kernel⟩,
   ⟨setObj full Obj.PeriodicWake 1, by decide +kernel⟩,
   ⟨{ full with rtc := { full.rtc with bin := 12622780800 * 2 ^ 48 } }, by decide +kernel⟩,
   ⟨{ full with rtc := { full.rtc with disciplined := true } }, by decide +kernel⟩⟩

/-- The hypotheses of each clause of LatchTriggers can be met. -/
theorem witness_LatchTriggers :
    (∃ (s : State) (tr : Trigger), s.tally.postponed = some tr ∧ s.tally.fifo.length < 4) ∧
    (∃ (s : State), boundariesRun s = true ∧ s.tally.boundaryInit = true ∧ boundaryDay s s.tally.boundaryLocal < boundaryDay s (localSecs s) ∧
      latchRoom s = true) ∧
    (∃ (s : State), boundariesRun s = true ∧ s.tally.boundaryInit = false) ∧
    (∃ (s : State), isFull s = true ∧ latchRoom s = true ∧ (subs4.zip s.tally.tariffHeld).any (fun e => decide (obj s (Obj.TariffCondition e.1) = 2)
      && (windowHolds s e.1 (localSecs s) != e.2)) = true) ∧
    (∃ (s : State) (st : Int), isFull s = true ∧ s.tally.intervalStart = some st ∧ st / (60 * (periodNow s : Int)) < localSecs s / (60 * (periodNow s
      : Int)) ∧ latchRoom s = true) ∧
    (∃ (s : State), s.tally.intervalStart = none) :=
  ⟨⟨{ full with tally := { full.tally with postponed := some ⟨1, 0, [], []⟩ } }, ⟨1, 0, [], []⟩, by decide +kernel⟩,
   ⟨{ full with tally := { full.tally with boundaryInit := true, boundaryLocal := 757382399 } }, by decide +kernel⟩,
   ⟨full, by decide +kernel⟩,
   ⟨setMany full [(Obj.TariffCondition 4, 2), (Obj.TariffWindow 4, 0x000005A07F)], by decide +kernel⟩,
   ⟨{ full with tally := { full.tally with intervalStart := some 757378800 } }, 757378800, by decide +kernel⟩,
   ⟨full, by decide +kernel⟩⟩

/-- The hypotheses of each clause of LysefSlave can be met. -/
theorem witness_LysefSlave :
    (∃ (s : State) (c : LyCell) (rest : List LyCell) (a : List LyCell) (h : List LyCell) (x : List LyCell) (y : List LyCell) (k : List LyCell) (z :
      List LyCell), a ++ h ++ x ++ y ++ k ++ z = c :: rest ∧ slaveUp s = true ∧ cmdIntact s (searchBytes (c :: rest)) 0x10 9 = true ∧ s.ly.steady =
      true ∧ (lyField (searchBytes (c :: rest)) 0 1 = 0 ∨ lyField (searchBytes (c :: rest)) 0 1 = 1 ∧ obj s Obj.LysefNew = 1)) ∧
    (∃ (s : State) (c : LyCell) (rest : List LyCell) (a : List LyCell) (h : List LyCell) (x : List LyCell) (y : List LyCell) (k : List LyCell) (z :
      List LyCell) (i : Instr) (cmd : Nat) (n : Nat), a ++ h ++ x ++ y ++ k ++ z = c :: rest ∧ (i, cmd, n) ∈ [(Instr.echo a h (x ++ y) (k ++ z),
      0x12, 8), (Instr.assign a h x y (k ++ z), 0x13, 9), (Instr.time a h (x ++ y) (k ++ z), 0x20, 8)] ∧ slaveUp s = true) ∧
    (∃ (s : State) (c : LyCell) (rest : List LyCell) (a : List LyCell) (h : List LyCell) (x : List LyCell) (y : List LyCell) (k : List LyCell) (z :
      List LyCell) (i : Instr) (cmd : Nat) (n : Nat), a ++ h ++ x ++ y ++ k ++ z = c :: rest ∧ (i, cmd, n) ∈ [(Instr.echo a h (x ++ y) (k ++ z),
      0x12, 8), (Instr.assign a h x y (k ++ z), 0x13, 9), (Instr.time a h (x ++ y) (k ++ z), 0x20, 8)] ∧ slaveUp s = true ∧ lyHeader s (lyBytes (c ::
      rest)) cmd false = .silent) ∧
    (∃ (s : State) (c : LyCell) (rest : List LyCell) (a : List LyCell) (h : List LyCell) (x : List LyCell) (y : List LyCell) (k : List LyCell) (z :
      List LyCell) (i : Instr) (cmd : Nat) (n : Nat), a ++ h ++ x ++ y ++ k ++ z = c :: rest ∧ (i, cmd, n) ∈ [(Instr.echo a h (x ++ y) (k ++ z),
      0x12, 8), (Instr.assign a h x y (k ++ z), 0x13, 9), (Instr.time a h (x ++ y) (k ++ z), 0x20, 8)] ∧ slaveUp s = true ∧ lyHeader s (lyBytes (c ::
      rest)) cmd false ≠ .silent ∧ cmdIntact s (lyBytes (c :: rest)) cmd n = false) ∧
    (∃ (s : State) (c : LyCell) (rest : List LyCell) (a : List LyCell) (h : List LyCell) (x : List LyCell) (y : List LyCell) (k : List LyCell) (z :
      List LyCell) (i : Instr) (cmd : Nat) (n : Nat), a ++ h ++ x ++ y ++ k ++ z = c :: rest ∧ (i, cmd, n) ∈ [(Instr.echo a h (x ++ y) (k ++ z),
      0x12, 8), (Instr.assign a h x y (k ++ z), 0x13, 9), (Instr.time a h (x ++ y) (k ++ z), 0x20, 8)] ∧ slaveUp s = false) ∧
    (∃ (s : State) (c : LyCell) (rest : List LyCell) (a : List LyCell) (h : List LyCell) (x : List LyCell) (y : List LyCell) (k : List LyCell) (z :
      List LyCell), a ++ h ++ x ++ y ++ k ++ z = c :: rest ∧ slaveUp s = true ∧ cmdIntact s (lyBytes (c :: rest)) 0x12 8 = true) ∧
    (∃ (s : State) (c : LyCell) (rest : List LyCell) (a : List LyCell) (h : List LyCell) (x : List LyCell) (y : List LyCell) (k : List LyCell) (z :
      List LyCell), a ++ h ++ x ++ y ++ k ++ z = c :: rest ∧ slaveUp s = true ∧ cmdIntact s (lyBytes (c :: rest)) 0x13 9 = true ∧ lyField (lyBytes (c
      :: rest)) 0 8 = obj s Obj.DeviceIdentity) ∧
    (∃ (s : State) (c : LyCell) (rest : List LyCell) (a : List LyCell) (h : List LyCell) (x : List LyCell) (y : List LyCell) (k : List LyCell) (z :
      List LyCell), a ++ h ++ x ++ y ++ k ++ z = c :: rest ∧ slaveUp s = true ∧ cmdIntact s (lyBytes (c :: rest)) 0x13 9 = true ∧ lyField (lyBytes (c
      :: rest)) 0 8 ≠ obj s Obj.DeviceIdentity) ∧
    (∃ (s : State) (c : LyCell) (rest : List LyCell) (a : List LyCell) (h : List LyCell) (x : List LyCell) (y : List LyCell) (k : List LyCell) (z :
      List LyCell), a ++ h ++ x ++ y ++ k ++ z = c :: rest ∧ slaveUp s = true ∧ cmdIntact s (lyBytes (c :: rest)) 0x20 8 = true ∧ coreUp s = true ∧
      getBit s Obj.TimeSourceEnable 2 = true) ∧
    (∃ (s : State) (c : LyCell) (rest : List LyCell) (a : List LyCell) (h : List LyCell) (x : List LyCell) (y : List LyCell) (k : List LyCell) (z :
      List LyCell), a ++ h ++ x ++ y ++ k ++ z = c :: rest ∧ slaveUp s = true ∧ cmdIntact s (lyBytes (c :: rest)) 0x20 8 = true ∧ getBit s
      Obj.TimeSourceEnable 2 = false) ∧
    (∃ (s : State) (c : LyCell) (rest : List LyCell) (a : List LyCell) (h : List LyCell) (x : List LyCell) (y : List LyCell) (k : List LyCell) (z :
      List LyCell), a ++ h ++ x ++ y ++ k ++ z = c :: rest ∧ s.pw.bus = true ∧ s.lm.running = false) ∧
    (∃ (s : State) (c : LyCell) (rest : List LyCell) (a : List LyCell) (h : List LyCell) (x : List LyCell) (y : List LyCell) (k : List LyCell) (z :
      List LyCell), a ++ h ++ x ++ y ++ k ++ z = c :: rest ∧ slaveUp s = true) ∧
    (∃ (s : State) (c : LyCell) (rest : List LyCell) (a : List LyCell) (h : List LyCell) (x : List LyCell) (y : List LyCell) (k : List LyCell) (z :
      List LyCell), a ++ h ++ x ++ y ++ k ++ z = c :: rest ∧ slaveUp s = true ∧ lyHeader s (lyBytes (c :: rest)) 0x01 true = .wrong) ∧
    (∃ (s : State) (c : LyCell) (rest : List LyCell) (a : List LyCell) (h : List LyCell) (x : List LyCell) (y : List LyCell) (k : List LyCell) (z :
      List LyCell), a ++ h ++ x ++ y ++ k ++ z = c :: rest ∧ slaveUp s = true ∧ lyHeader s (lyBytes (c :: rest)) 0x01 true = .silent) ∧
    (∃ (s : State) (c : LyCell) (rest : List LyCell) (a : List LyCell) (h : List LyCell) (x : List LyCell) (y : List LyCell) (k : List LyCell) (z :
      List LyCell) (free : Bool) (f : Frame) (d : ObjDef), a ++ h ++ x ++ y ++ k ++ z = c :: rest ∧ lyHeader s (lyBytes (c :: rest)) 0x01 true =
      .mine ∧ ((lyBytes (c :: rest)).drop 3).length = 8 + f.len.toNat ∧ f.len.toNat ≤ 240 ∧ f =
      { frameOf ((lyBytes (c :: rest)).drop 3) with bufferFree := free } ∧ opOf ((((lyBytes (c :: rest)).drop 3).headD 0).toNat / 16) = some .read ∧
      frameReady s .lysef .read f = true ∧ lookup s.code f.index.toNat f.sub.toNat = .obj d ∧ (d.kind = .rw ∨ d.kind = .rwc)) ∧
    (∃ (c : LyCell) (rest : List LyCell) (a : List LyCell) (h : List LyCell) (x : List LyCell) (y : List LyCell) (k : List LyCell) (z : List LyCell)
      (addr : Byte) (cmd : Byte) (hck : Byte), a ++ h ++ x ++ y ++ k ++ z = c :: rest ∧ hck ≠ addr ^^^ cmd ^^^ 0xA5) ∧
    (∃ (s : State) (c : LyCell) (rest : List LyCell) (a : List LyCell) (h : List LyCell) (x : List LyCell) (y : List LyCell) (k : List LyCell) (z :
      List LyCell) (addr : Byte), a ++ h ++ x ++ y ++ k ++ z = c :: rest ∧ addr ≠ 0 ∧ addr.toNat ≠ slaveAddress s) ∧
    (∃ (c : LyCell) (rest : List LyCell) (a : List LyCell) (h : List LyCell) (x : List LyCell) (y : List LyCell) (k : List LyCell) (z : List LyCell),
      a ++ h ++ x ++ y ++ k ++ z = c :: rest) ∧
    (∃ (c : LyCell) (rest : List LyCell) (a : List LyCell) (h : List LyCell) (x : List LyCell) (y : List LyCell) (k : List LyCell) (z : List LyCell),
      a ++ h ++ x ++ y ++ k ++ z = c :: rest) ∧
    (∃ (s : State) (c : LyCell) (rest : List LyCell) (a : List LyCell) (h : List LyCell) (x : List LyCell) (y : List LyCell) (k : List LyCell) (z :
      List LyCell) (addr : Byte), a ++ h ++ x ++ y ++ k ++ z = c :: rest ∧ addr ≠ 0 ∧ addr.toNat = slaveAddress s) :=
  ⟨⟨setObj full Obj.LysefNew 1, bitCell true, (lyCells (masterFrame 0 0x10 ([0x01] ++ bytesOf 8 3) true) ++ lyCells [0xFF]), (bitCell true) ::
     (lyCells (masterFrame 0 0x10 ([0x01] ++ bytesOf 8 3) true) ++ lyCells [0xFF]), [], [], [], [], [], by decide +kernel⟩,
   ⟨full, bitCell true, lyCells (masterFrame 0 0x12 (bytesOf 8 1) true), (bitCell true) :: (lyCells (masterFrame 0 0x12 (bytesOf 8 1) true)), [], [],
     [], [], [], .echo ((bitCell true) :: (lyCells (masterFrame 0 0x12 (bytesOf 8 1) true))) [] [] [], 0x12, 8, by decide +kernel⟩,
   ⟨full, bitCell true, lyCells (masterFrame 7 0x13 [] true), (bitCell true) :: (lyCells (masterFrame 7 0x13 [] true)), [], [], [], [], [], .assign
     ((bitCell true) :: (lyCells (masterFrame 7 0x13 [] true))) [] [] [] [], 0x13, 9, by decide +kernel⟩,
   ⟨full, bitCell true, lyCells (masterFrame 0 0x20 [] true), (bitCell true) :: (lyCells (masterFrame 0 0x20 [] true)), [], [], [], [], [], .time
     ((bitCell true) :: (lyCells (masterFrame 0 0x20 [] true))) [] [] [], 0x20, 8, by decide +kernel⟩,
   ⟨{ full with pw := { full.pw with bus := false } }, bitCell true, lyCells (masterFrame 0 0x12 (bytesOf 8 1) true), (bitCell true) :: (lyCells
     (masterFrame 0 0x12 (bytesOf 8 1) true)), [], [], [], [], [], .echo ((bitCell true) :: (lyCells (masterFrame 0 0x12 (bytesOf 8 1) true))) [] []
     [], 0x12, 8, by decide +kernel⟩,
   ⟨full, bitCell true, lyCells (masterFrame 0 0x12 (bytesOf 8 1) true), (bitCell true) :: (lyCells (masterFrame 0 0x12 (bytesOf 8 1) true)), [], [],
     [], [], [], by decide +kernel⟩,
   ⟨full, bitCell true, lyCells (masterFrame 0 0x13 (bytesOf 8 1 ++ [0xFF]) true), (bitCell true) :: (lyCells (masterFrame 0 0x13 (bytesOf 8 1 ++
     [0xFF]) true)), [], [], [], [], [], by decide +kernel⟩,
   ⟨full, bitCell true, lyCells (masterFrame 0 0x13 (bytesOf 8 2 ++ [0xFF]) true), (bitCell true) :: (lyCells (masterFrame 0 0x13 (bytesOf 8 2 ++
     [0xFF]) true)), [], [], [], [], [], by decide +kernel⟩,
   ⟨setObj full Obj.TimeSourceEnable 4, bitCell true, lyCells (masterFrame 0 0x20 (bytesOf 8 49636000000000) true), (bitCell true) :: (lyCells
     (masterFrame 0 0x20 (bytesOf 8 49636000000000) true)), [], [], [], [], [], by decide +kernel⟩,
   ⟨setObj full Obj.TimeSourceEnable 3, bitCell true, lyCells (masterFrame 0 0x20 (bytesOf 8 0) true), (bitCell true) :: (lyCells (masterFrame 0 0x20
     (bytesOf 8 0) true)), [], [], [], [], [], by decide +kernel⟩,
   ⟨full, bitCell true, [], (bitCell true) :: [], [], [], [], [], [], by decide +kernel⟩,
   ⟨full, bitCell true, [], (bitCell true) :: [], [], [], [], [], [], by decide +kernel⟩,
   ⟨full, bitCell true, lyCells [0, 0x01, 0xA5], (bitCell true) :: (lyCells [0, 0x01, 0xA5]), [], [], [], [], [], by decide +kernel⟩,
   ⟨full, bitCell true, lyCells [7, 0x01, 0xA3], (bitCell true) :: (lyCells [7, 0x01, 0xA3]), [], [], [], [], [], by decide +kernel⟩,
   ⟨setObj full Obj.LysefShortAddress 7, bitCell true, lyCells ([0x07, 0x01, 0xA3] ++ wireBytes .read (hostFrame .read 0 Obj.LongWaitThreshold [])),
     (bitCell true) :: (lyCells ([0x07, 0x01, 0xA3] ++ wireBytes .read (hostFrame .read 0 Obj.LongWaitThreshold []))), [], [], [], [], [], true,
     hostFrame .read 0 Obj.LongWaitThreshold [], rowAt Obj.LongWaitThreshold, by decide +kernel⟩,
   ⟨bitCell true, [], (bitCell true) :: [], [], [], [], [], [], 0, 1, 0, by decide +kernel⟩,
   ⟨full, bitCell true, [], (bitCell true) :: [], [], [], [], [], [], 7, by decide +kernel⟩,
   ⟨bitCell true, [], (bitCell true) :: [], [], [], [], [], [], by decide +kernel⟩,
   ⟨bitCell true, [], (bitCell true) :: [], [], [], [], [], [], by decide +kernel⟩,
   ⟨setObj full Obj.LysefShortAddress 7, bitCell true, [], (bitCell true) :: [], [], [], [], [], [], 7, by decide +kernel⟩⟩

/-- The hypotheses of each clause of LysefSearchParticipation can be met. -/
theorem witness_LysefSearchParticipation :
    (∃ (s : State) (c : LyCell) (rest : List LyCell) (a : List LyCell) (h : List LyCell) (x : List LyCell) (y : List LyCell) (k : List LyCell) (z :
      List LyCell), slaveUp s = true ∧ a ++ h ++ x ++ y ++ k ++ z = c :: rest ∧ cmdIntact s (searchBytes (c :: rest)) 0x10 9 = false) ∧
    (∃ (s : State) (c : LyCell) (rest : List LyCell) (a : List LyCell) (h : List LyCell) (x : List LyCell) (y : List LyCell) (k : List LyCell) (z :
      List LyCell), slaveUp s = true ∧ a ++ h ++ x ++ y ++ k ++ z = c :: rest ∧ s.ly.steady = false) ∧
    (∃ (s : State) (c : LyCell) (rest : List LyCell) (a : List LyCell) (h : List LyCell) (x : List LyCell) (y : List LyCell) (k : List LyCell) (z :
      List LyCell), slaveUp s = true ∧ a ++ h ++ x ++ y ++ k ++ z = c :: rest ∧ lyField (searchBytes (c :: rest)) 0 1 = 1 ∧ obj s Obj.LysefNew ≠ 1) :=
  ⟨⟨full, bitCell true, lyCells [0, 0x10, 0xB5], (bitCell true) :: (lyCells [0, 0x10, 0xB5]), [], [], [], [], [], by decide +kernel⟩,
   ⟨{ full with ly := { full.ly with steady := false } }, bitCell true, (lyCells (masterFrame 0 0x10 ([0x01] ++ bytesOf 8 3) true) ++ lyCells
     [0xFF]), (bitCell true) :: (lyCells (masterFrame 0 0x10 ([0x01] ++ bytesOf 8 3) true) ++ lyCells [0xFF]), [], [], [], [], [], by decide +kernel⟩,
   ⟨setObj full Obj.LysefNew 0, bitCell true, (lyCells (masterFrame 0 0x10 ([0x01] ++ bytesOf 8 3) true) ++ lyCells [0xFF]), (bitCell true) ::
     (lyCells (masterFrame 0 0x10 ([0x01] ++ bytesOf 8 3) true) ++ lyCells [0xFF]), [], [], [], [], [], by decide +kernel⟩⟩

/-- The hypotheses of each clause of LysefNewIsSet can be met. -/
theorem witness_LysefNewIsSet :
    (∃ (s : State), s.pw.bus = false) ∧
    (∃ (s : State), s.pw.bus = false ∧ s.pw.vbat = false ∧ (s.pw.mode = .off ∨ s.pw.mode = .backup ∨ s.pw.mode = .duskHold)) ∧
    (∃ (s : State) (r : Route), hostReady s r 3 = true) :=
  ⟨⟨{ full with pw := { full.pw with bus := false } }, by decide +kernel⟩,
   ⟨{ full with pw := { full.pw with bus := false, vbat := false, mode := .backup } }, by decide +kernel⟩,
   ⟨full, .spi, by decide +kernel⟩⟩

/-- The hypotheses of each clause of LysefSearch can be met. -/
theorem witness_LysefSearch :
    (∃ (s : State) (newOnly : Bool) (salt : Nat) (path : Nat) (key : Nat) (found : Nat) (answers : List LsnsRead), masterUp s = true ∧ s.lm.identity
      = none ∧ s.lm.search = some ⟨newOnly, salt, path, [], false, found⟩ ∧ path < 2 ^ 64 ∧ key < 2 ^ 64 ∧ readPairs s answers = (List.range 64).map
      (fun i => (!bitOf key (63 - i), bitOf key (63 - i)))) ∧
    (∃ (s : State) (newOnly : Bool) (salt : Nat) (path : Nat) (found : Nat), masterUp s = true ∧ s.lm.identity = none ∧ s.lm.search = some ⟨newOnly,
      salt, path, [], false, found⟩) ∧
    (∃ (s : State) (d : Nat) (answers : List LsnsRead), masterUp s = true ∧ s.lm.identity = some d ∧ answers.length = 64 ∧ 2 ^ 64 - 1 - bitsNat
      (readBits s answers) = d ∧ d ≠ 0 ∧ d ≠ 0xFFFFFFFFFFFFFFFF) ∧
    (∃ (s : State) (d : Nat) (answers : List LsnsRead), masterUp s = true ∧ s.lm.identity = some d ∧ (answers.length ≠ 64 ∨ 2 ^ 64 - 1 - bitsNat
      (readBits s answers) ≠ d)) ∧
    (∃ (s : State) (d : Nat) (n : Nat) (answers : List LsnsRead), masterUp s = true ∧ s.lm.identity = some d ∧ s.lm.matched = true ∧ entryHolding s d
      = none ∧ freeEntry s = some n ∧ answers.length = 16 ∧ bitsNat (readBits s answers) = n * 256 + (255 - n)) :=
  ⟨⟨inMaster full (fun x => { x with search := some ⟨true, 3, 4, [], false, 2⟩ }), true, 3, 4, 18446744073709551615, 2, keyCells
     (18446744073709551615 : Nat), by decide +kernel⟩,
   ⟨inMaster full (fun x => { x with search := some ⟨true, 3, 4, [], false, 2⟩ }), true, 3, 4, 2, by decide +kernel⟩,
   ⟨inMaster full (fun x => { x with identity := some 1 }), 1, numCells 64 (2 ^ 64 - 2), by decide +kernel⟩,
   ⟨inMaster full (fun x => { x with identity := some 1 }), 1, [], by decide +kernel⟩,
   ⟨inMaster full (fun x => { x with identity := some 1, matched := true }), 1, (freeEntry (inMaster full (fun x =>
     { x with identity := some 1, matched := true }))).getD 0, numCells 16 (((freeEntry (inMaster full (fun x =>
     { x with identity := some 1, matched := true }))).getD 0) * 256 + (255 - ((freeEntry (inMaster full (fun x =>
     { x with identity := some 1, matched := true }))).getD 0))), by decide +kernel⟩⟩

/-- The hypotheses of each clause of LysefMasterEvents can be met. -/
theorem witness_LysefMasterEvents :
    (∃ (s : State), masterUp s = true ∧ obj s Obj.LysefNewPoll ≠ 0 ∧ (s.lm.openSlaves = [] ∨ obj s Obj.LysefBreakDefer = 0)) ∧
    (∃ (s : State), masterUp s = true ∧ obj s Obj.LysefNewPoll ≠ 0 ∧ s.lm.openSlaves ≠ [] ∧ obj s Obj.LysefBreakDefer ≠ 0) ∧
    (∃ (s : State), masterUp s = true ∧ obj s Obj.LysefTimeInterval ≠ 0) ∧
    (∃ (s : State) (b : Bool), masterUp s = true ∧ s.lm.deferred = some b) ∧
    (∃ (s : State) (addr : Byte), masterUp s = true ∧ obj s Obj.LysefLostLimit ≤ mget s.lm.noAnswer addr.toNat 0 ∧ s.lm.lost.contains addr.toNat =
      false) ∧
    (∃ (s : State) (base : Nat), masterUp s = true ∧ (404 * obj s Obj.LsnsGain < base ∨ s.pw.bus = false)) ∧
    (∃ (s : State), s.lm.running = true ∧ s.lm.fault = true) :=
  ⟨⟨{ setObj full Obj.LysefNewPoll 1 with lm := { full.lm with running := true } }, by decide +kernel⟩,
   ⟨{ setMany full [(Obj.LysefNewPoll, 1), (Obj.LysefBreakDefer, 100)] with lm := { full.lm with running := true, openSlaves := [3] } },
     by decide +kernel⟩,
   ⟨{ setObj full Obj.LysefTimeInterval 60 with lm := { full.lm with running := true } }, by decide +kernel⟩,
   ⟨{ full with lm := { full.lm with running := true, deferred := some true } }, true, by decide +kernel⟩,
   ⟨{ full with lm := { full.lm with running := true, noAnswer := [(255, 255)] } }, 255, by decide +kernel⟩,
   ⟨inMaster full id, 1000000, by decide +kernel⟩,
   ⟨{ full with lm := { full.lm with running := true, fault := true } }, by decide +kernel⟩⟩

/-- The hypotheses of each clause of TailAndVicinity can be met. -/
theorem witness_TailAndVicinity :
    (∃ (s : State) (slot : Nat) (x : Resp), portUp s .spi = true ∧ firstHeld s = some (slot, x)) ∧
    (∃ (s : State), portUp s .spi = true ∧ firstHeld s = none) ∧
    (∃ (s : State) (maskLen : Nat) (mask : BitVec 64), vicUp s = true ∧ s.ports.vic ≠ .quiet ∧ maskLen ≤ 60 ∧ vicinityUid s % 2 ^ maskLen =
      mask.toNat % 2 ^ maskLen) ∧
    (∃ (s : State), vicUp s = true ∧ s.ports.vic = .quiet) ∧
    (∃ (s : State) (uid : BitVec 64), vicUp s = true ∧ uid.toNat = vicinityUid s) ∧
    (∃ (s : State) (uid : BitVec 64), vicUp s = true ∧ uid.toNat = vicinityUid s) ∧
    (∃ (s : State) (uid : BitVec 64), vicUp s = true ∧ uid.toNat ≠ vicinityUid s ∧ s.ports.vic = .selected) ∧
    (∃ (s : State) (m : VicMode), vicUp s = true ∧ vicAddressed s m = true) ∧
    (∃ (s : State) (m : VicMode), vicUp s = true ∧ vicAddressed s m = true) ∧
    (∃ (s : State) (m : VicMode) (mfr : Byte) (form : IsoForm), vicUp s = true ∧ (form = .intact ∨ form = .short) ∧ (m = .nonAddressed ∨ vicAddressed
      s m = false ∨ mfr.toNat ≠ obj s Obj.IcManufacturerCode)) ∧
    (∃ (s : State), vicUp s = true) ∧
    (∃ (s : State) (m : VicMode), vicUp s = true ∧ m ≠ .nonAddressed ∧ vicAddressed s m = true) ∧
    (∃ (s : State) (m : VicMode), vicUp s = true ∧ (m = .nonAddressed ∨ vicAddressed s m = false)) ∧
    (∃ (s : State) (m : VicMode) (mfr : Byte), vicUp s = true ∧ m ≠ .nonAddressed ∧ vicAddressed s m = true ∧ mfr.toNat = obj s
      Obj.IcManufacturerCode) ∧
    (∃ (s : State) (m : VicMode) (mfr : Byte), vicUp s = true ∧ m ≠ .nonAddressed ∧ vicAddressed s m = true ∧ mfr.toNat = obj s
      Obj.IcManufacturerCode) ∧
    (∃ (s : State) (m : VicMode) (mfr : Byte) (f : Frame) (d : ObjDef), m ≠ .nonAddressed ∧ vicAddressed s m = true ∧ mfr.toNat = obj s
      Obj.IcManufacturerCode ∧ frameReady s .vicinity .read f = true ∧ lookup s.code f.index.toNat f.sub.toNat = .obj d ∧ (d.kind = .rw ∨ d.kind =
      .rwc)) :=
  ⟨⟨{ full with ports := { full.ports with tags := [(4, ⟨.spi, .read, hostFrame .read 0 Obj.TdcMode [], .held 7 ⟨0, 0, 0x2002, 0, [0]⟩⟩)] } }, 4, ⟨0,
     0, 0x2002, 0, [0]⟩, by decide +kernel⟩,
   ⟨full, by decide +kernel⟩,
   ⟨full, 60, BitVec.ofNat 64 (vicinityUid full), by decide +kernel⟩,
   ⟨{ full with ports := { full.ports with vic := .quiet } }, by decide +kernel⟩,
   ⟨full, BitVec.ofNat 64 (vicinityUid full), by decide +kernel⟩,
   ⟨full, BitVec.ofNat 64 (vicinityUid full), by decide +kernel⟩,
   ⟨{ full with ports := { full.ports with vic := .selected } }, 0, by decide +kernel⟩,
   ⟨full, .addressed (BitVec.ofNat 64 (vicinityUid full)), by decide +kernel⟩,
   ⟨full, .addressed (BitVec.ofNat 64 (vicinityUid full)), by decide +kernel⟩,
   ⟨full, .nonAddressed, 0, .short, by decide +kernel⟩,
   ⟨full, by decide +kernel⟩,
   ⟨full, .addressed (BitVec.ofNat 64 (vicinityUid full)), by decide +kernel⟩,
   ⟨full, .nonAddressed, by decide +kernel⟩,
   ⟨full, .addressed (BitVec.ofNat 64 (vicinityUid full)), 0, by decide +kernel⟩,
   ⟨full, .addressed (BitVec.ofNat 64 (vicinityUid full)), 0, by decide +kernel⟩,
   ⟨full, .addressed (BitVec.ofNat 64 (vicinityUid full)), 0, hostFrame .read 0 Obj.LongWaitThreshold [], rowAt (frameKey (hostFrame .read 0
     Obj.LongWaitThreshold [])), by decide +kernel⟩⟩

/-- The hypotheses of each clause of VicinityUidForm can be met. -/
theorem witness_VicinityUidForm :
    (∃ (s : State) (r : Route) (f : Frame), obj s Obj.IcManufacturerCode < 256 ∧ frameReady s r .read f = true ∧ frameKey f = Obj.VicinityUid) ∧
    (∃ (s : State) (m : VicMode), obj s Obj.IcManufacturerCode < 256 ∧ vicUp s = true ∧ vicAddressed s m = true) :=
  ⟨⟨full, .spi, hostFrame .read 0 Obj.VicinityUid [], by decide +kernel⟩,
   ⟨{ full with ports := { full.ports with vic := .selected } }, .selected, by decide +kernel⟩⟩

/-- The hypotheses of SealedFramesOpen can be met. -/
theorem witness_SealedFramesOpen :
    ∃ (nonce : List Nat), nonce.length = 13 :=
  ⟨[0, 1, 2, 3, 4, 5, 6, 7, 8, 9, 10, 11, 12], by decide +kernel⟩

/-- The hypotheses of each clause of ConnectionEvents can be met. -/
theorem witness_ConnectionEvents :
    (∃ (s : State) (p : Nat) (n : Nbr) (c : Conn), isFull s = true ∧ isCrown s = false ∧ nbr s p = some n ∧ n.conn = some c ∧ radioUp s = true ∧
      radioBusy s = false) ∧
    (∃ (s : State) (p : Nat) (n : Nbr) (c : Conn), isFull s = true ∧ nbr s p = some n ∧ n.conn = some c ∧ radioBusy s = true) ∧
    (∃ (s : State) (p : Nat) (n : Nbr) (c : Conn), isFull s = true ∧ isCrown s = true ∧ nbr s p = some n ∧ n.conn = some c ∧ mayTransmit s = true ∧
      radioBusy s = false ∧ n.out = none ∧ s.radio.txq = [] ∧ obj s Obj.GroveTimeInterval = 0 ∧ n.tx ≠ 0xFFFFFFFF ∧ gate s 0 (channelSpan s
      (c.channel c.event)) (c.channel c.event) (airMs s (onAirLength (macLength n []))) n.power false = .send) ∧
    (∃ (s : State) (p : Nat) (n : Nbr), s.radio.event = some p ∧ s.radio.await = true ∧ nbr s p = some n) ∧
    (∃ (s : State) (p : Nat), s.radio.event = some p ∧ s.radio.await = false ∧ s.radio.txq = []) ∧
    (∃ (s : State) (a : OnAir) (rest : List OnAir), s.radio.air = a :: rest) ∧
    (∃ (s : State) (a : OnAir) (rest : List OnAir), s.radio.air = a :: rest ∧ s.radio.txq = [] ∧ s.radio.heldResp = []) ∧
    (∃ (s : State) (p : Nat), isFull s = true ∧ linkExpired s p = true) :=
  ⟨⟨stem, 0, (nbr stem 0).getD (peer 0), conn, by decide +kernel⟩,
   ⟨inRadio stem (fun x => { x with event := some 5 }), 0, (nbr stem 0).getD (peer 0), conn, by decide +kernel⟩,
   ⟨setObj crown Obj.GroveTimeInterval 0, 5, (nbr crown 5).getD (peer 0), conn, by decide +kernel⟩,
   ⟨{ crown with radio := { crown.radio with event := some 5, await := true } }, 5, (nbr
     ({ crown with radio := { crown.radio with event := some 5, await := true } }) (5 : Nat)).getD (peer 0), by decide +kernel⟩,
   ⟨{ crown with radio := { crown.radio with event := some 5 } }, 5, by decide +kernel⟩,
   ⟨inRadio crown (fun x => { x with air := [⟨1, 5, [], 0, 0, 0, 0, none, 1, 0⟩] }), ⟨1, 5, [], 0, 0, 0, 0, none, 1, 0⟩, [], by decide +kernel⟩,
   ⟨inRadio crown (fun x => { x with air := [⟨1, 5, [], 0, 0, 0, 0, none, 1, 0⟩] }), ⟨1, 5, [], 0, 0, 0, 0, none, 1, 0⟩, [], by decide +kernel⟩,
   ⟨{ crown with rtc := { crown.rtc with tk := 10 ^ 6 * 2 ^ 48 } }, 5, by decide +kernel⟩⟩

/-- The hypotheses of each clause of ReceivedFrames can be met. -/
theorem witness_ReceivedFrames :
    (∃ (s : State) (f : AirFrame), listening s = true ∧ airIntact f = false) ∧
    (∃ (s : State) (p : Nat) (n : Nbr) (f : AirFrame), listening s = true ∧ airIntact f = true ∧ typeOf f = 4 ∧ sourceOf s f = some p ∧ s.radio.event
      = some p ∧ nbr s p = some n ∧ openAir n.key n.identity f = none) ∧
    (∃ (s : State) (p : Nat) (n : Nbr) (f : AirFrame) (pay : List Byte), airReady s p n f pay = true ∧ typeOf f = 6) ∧
    (∃ (s : State) (p : Nat) (n : Nbr) (f : AirFrame) (pay : List Byte), airReady s p n f pay = true ∧ typeOf f = 5) ∧
    (∃ (s : State) (p : Nat) (n : Nbr) (f : AirFrame) (pay : List Byte) (b : List Byte) (fr : Frame) (d : ObjDef), airReady s p n f pay = true ∧
      typeOf f = 4 ∧ pay = 0x01 :: b ∧ 8 ≤ b.length ∧ opOf ((b.headD 0).toNat / 16) = some .read ∧ fr = frameOf b ∧ frameReady s (.grove p) .read fr
      = true ∧ lookup s.code fr.index.toNat fr.sub.toNat = .obj d ∧ (d.kind = .rw ∨ d.kind = .rwc)) ∧
    (∃ (s : State) (p : Nat) (n : Nbr) (f : AirFrame) (pay : List Byte) (b : List Byte), airReady s p n f pay = true ∧ typeOf f = 4 ∧ pay = 0x02 :: b
      ∧ s.radio.send = some p) ∧
    (∃ (s : State) (p : Nat) (n : Nbr) (f : AirFrame) (pay : List Byte) (b : List Byte) (e : Stem), airReady s p n f pay = true ∧ typeOf f = 4 ∧ pay
      = 0x03 :: b ∧ isCrown s = true ∧ mfind s.radio.stems p = some e ∧ e.snapshot = [] ∧ 18 ≤ b.length) ∧
    (∃ (s : State) (p : Nat) (n : Nbr) (f : AirFrame) (pay : List Byte) (b : List Byte), airReady s p n f pay = true ∧ typeOf f = 4 ∧ pay = 0x04 :: b
      ∧ isCrown s = false ∧ getBit s Obj.TimeSourceEnable 1 = true) ∧
    (∃ (s : State) (p : Nat) (n : Nbr) (f : AirFrame) (pay : List Byte) (b : List Byte), airReady s p n f pay = true ∧ typeOf f = 4 ∧ pay = 0x05 ::
      b) :=
  ⟨⟨crown, { aired 77 10 0x6C 6 0 5 9 [] with crcOk := false }, by decide +kernel⟩,
   ⟨{ crown with radio := { crown.radio with event := some 5 } }, 5, (nbr ({ crown with radio := { crown.radio with event := some 5 } }) (5 :
     Nat)).getD (peer 0), { aired 77 10 0x4C 6 0 5 9 [5, 1] with mic := [0] }, by decide +kernel⟩,
   ⟨{ crown with radio := { crown.radio with event := some 5 } }, 5, (nbr ({ crown with radio := { crown.radio with event := some 5 } }) (5 :
     Nat)).getD (peer 0), aired 77 10 0x6C 6 0 5 9 [], [], by decide +kernel⟩,
   ⟨{ crown with radio := { crown.radio with event := some 5 } }, 5, (nbr ({ crown with radio := { crown.radio with event := some 5 } }) (5 :
     Nat)).getD (peer 0), aired 77 10 0x54 6 0 5 9 [], [], by decide +kernel⟩,
   ⟨{ crown with radio := { crown.radio with event := some 5 } }, 5, (nbr ({ crown with radio := { crown.radio with event := some 5 } }) (5 :
     Nat)).getD (peer 0), aired 77 10 0x4C 6 0 5 9 (1 :: (frameBytes .read (hostFrame .read 0 Obj.LongWaitThreshold []) ++ bytesOf 2 (hostFrame .read
     0 Obj.LongWaitThreshold []).crc.toNat : List Byte)), 1 :: (frameBytes .read (hostFrame .read 0 Obj.LongWaitThreshold []) ++ bytesOf 2 (hostFrame
     .read 0 Obj.LongWaitThreshold []).crc.toNat : List Byte), frameBytes .read (hostFrame .read 0 Obj.LongWaitThreshold []) ++ bytesOf 2 (hostFrame
     .read 0 Obj.LongWaitThreshold []).crc.toNat, hostFrame .read 0 Obj.LongWaitThreshold [], rowAt (frameKey (hostFrame .read 0
     Obj.LongWaitThreshold [])), by decide +kernel⟩,
   ⟨{ crown with radio := { crown.radio with event := some 5, send := some 5 } }, 5, (nbr
     ({ crown with radio := { crown.radio with event := some 5, send := some 5 } }) (5 : Nat)).getD (peer 0), aired 77 10 0x4C 6 0 5 9 [2, 0, 1], [2,
     0, 1], [0, 1], by decide +kernel⟩,
   ⟨{ crown with radio := { crown.radio with event := some 5 } }, 5, (nbr ({ crown with radio := { crown.radio with event := some 5 } }) (5 :
     Nat)).getD (peer 0), aired 77 10 0x4C 6 0 5 9 (3 :: List.replicate 18 7), 3 :: List.replicate 18 7, List.replicate 18 7, (mfind
     ({ crown with radio := { crown.radio with event := some 5 } }).radio.stems (5 : Nat)).getD ⟨10, 77, false, 1, 0, [], none⟩, by decide +kernel⟩,
   ⟨{ setObj stem Obj.TimeSourceEnable 2 with radio := { stem.radio with event := some 0 } }, 0, (nbr
     ({ setObj stem Obj.TimeSourceEnable 2 with radio := { stem.radio with event := some 0 } }) (0 : Nat)).getD (peer 0), aired 77 9 0x4C 5 3 0 9 (4
     :: (bytesOf 8 49635818000000 : List Byte)), 4 :: (bytesOf 8 49635818000000 : List Byte), bytesOf 8 49635818000000, by decide +kernel⟩,
   ⟨{ stem with radio := { stem.radio with event := some 0 } }, 0, (nbr ({ stem with radio := { stem.radio with event := some 0 } }) (0 : Nat)).getD
     (peer 0), aired 77 9 0x4C 5 3 0 9 [5, 1, 2, 3], [5, 1, 2, 3], [1, 2, 3], by decide +kernel⟩⟩

/-- The hypotheses of each clause of WakingUp can be met. -/
theorem witness_WakingUp :
    (∃ (s : State), radioUp s = true ∧ radioIdle s = true ∧ anchorWithin s 1 = false ∧ s.radio.glancing = false) ∧
    (∃ (s : State), anchorWithin s 1 = true) ∧
    (∃ (s : State), radioUp s = true ∧ radioIdle s = true ∧ anchorWithin s 1 = false ∧ s.radio.glancing = true) ∧
    (∃ (s : State) (grove : BitVec 16) (target : BitVec 32), s.pw.mode ≠ .transport ∧ radioUp s = true ∧ s.radio.glancing = true ∧ ownGrove s ≠
      0xFFFF ∧ grove.toNat = ownGrove s ∧ target.toNat = ownShort s) ∧
    (∃ (s : State) (grove : BitVec 16) (target : BitVec 32), s.pw.mode = .transport ∧ s.radio.window = true ∧ installAllowed s = true ∧ grove =
      0xFFFF ∧ target.toNat = obj s Obj.DeviceIdentity % 2 ^ 32) ∧
    (∃ (s : State), radioUp s = true ∧ s.radio.wakeWait = true ∧ s.radio.air = [] ∧ s.radio.event = none) ∧
    (∃ (s : State) (p : Nat) (n : Nbr) (e : TxEntry), radioIdle s = true ∧ s.radio.txq.find? (fun x => x.train && decide (x.peer = p)) = some e ∧
      radioWaits s e = false ∧ e.beacon = false ∧ nbr s p = some n ∧ n.tx ≠ 0xFFFFFFFF ∧ freeGate s e (freeChannel s e) false = .send) ∧
    (∃ (s : State) (identity : BitVec 64) (mac : BitVec 64) (counter : BitVec 32), s.pw.mode = .transport ∧ s.pw.transportSet = true ∧
      s.radio.installReady = true ∧ identity.toNat = obj s Obj.DeviceIdentity ∧ obj s Obj.InstallCounter < counter.toNat ∧ mac.toNat = installMac s
      identity.toNat counter.toNat) ∧
    (∃ (s : State) (counter : BitVec 32), s.pw.mode = .transport ∧ s.radio.installReady = true ∧ counter.toNat ≤ obj s Obj.InstallCounter) :=
  ⟨⟨stem, by decide +kernel⟩,
   ⟨{ stem with rtc := { stem.rtc with tk := 120 * 2 ^ 48 } }, by decide +kernel⟩,
   ⟨inRadio stem (fun x => { x with glancing := true }), by decide +kernel⟩,
   ⟨{ stem with radio := { stem.radio with glancing := true } }, 5, 3, by decide +kernel⟩,
   ⟨{ stem with pw := { stem.pw with mode := .transport }, radio := { stem.radio with window := true } }, 0xFFFF, 1, by decide +kernel⟩,
   ⟨{ stem with radio := { stem.radio with wakeWait := true } }, by decide +kernel⟩,
   ⟨inRadio (setObj crown Obj.BudgetBucket 1000000) (fun x => { x with txq := [⟨0, 2, 5, 0x4C, [5, 1], 0, none, true⟩] }), 5, (nbr crown 5).getD
     (peer 0), ⟨0, 2, 5, 0x4C, [5, 1], 0, none, true⟩, by decide +kernel⟩,
   ⟨inRadio { stem with pw := { stem.pw with mode := .transport, transportSet := true } } (fun x => { x with installReady := true }), 1, BitVec.ofNat
     64 (installMac (inRadio { stem with pw := { stem.pw with mode := .transport, transportSet := true } } (fun x =>
     { x with installReady := true })) 1 0xFFFFFFFF), 0xFFFFFFFF, by decide +kernel⟩,
   ⟨{ stem with pw := { stem.pw with mode := .transport }, radio := { stem.radio with installReady := true } }, 0, by decide +kernel⟩⟩

/-- The hypotheses of each clause of TransmitQueue can be met. -/
theorem witness_TransmitQueue :
    (∃ (s : State), isFull s = true ∧ isStem s = true ∧ obj s Obj.TelegramInterval ≠ 0 ∧ s.radio.txq.length < 8) ∧
    (∃ (s : State), isFull s = true ∧ obj s Obj.CompatMode ≠ 0) ∧
    (∃ (s : State) (fr : Frame) (d : ObjDef), listening s = true ∧ frameReady s (.grove 256) .read fr = true ∧ lookup s.code fr.index.toNat
      fr.sub.toNat = .obj d ∧ (d.kind = .rw ∨ d.kind = .rwc)) ∧
    (∃ (s : State), coreUp s = true ∧ s.radio.heldResp = []) ∧
    (∃ (s : State) (rssi : Int) (id : Nat) (chan : Nat) (tries : Nat) (p : Nat), s.radio.lbt = some ⟨some p, id, chan, tries, false⟩ ∧ objI 1 s
      Obj.LbtThreshold ≤ rssi) ∧
    (∃ (s : State) (rssi : Int) (id : Nat) (chan : Nat) (e : TxEntry), s.radio.lbt = some ⟨none, id, chan, 2, false⟩ ∧ s.radio.txq.find? (fun x =>
      x.id = id) = some e ∧ objI 1 s Obj.LbtThreshold ≤ rssi) ∧
    (∃ (s : State) (rssi : Int) (id : Nat) (chan : Nat) (tries : Nat) (e : TxEntry), s.radio.lbt = some ⟨none, id, chan, tries, false⟩ ∧
      s.radio.txq.find? (fun x => x.id = id) = some e ∧ rssi < objI 1 s Obj.LbtThreshold ∧ radioWaits
      { s with radio := { s.radio with lbt := none } } e = false ∧ (e.beacon && anchorWithin s (freeMs s e)) = false ∧ e.train = false ∧ freeGate s e
      chan true = .send) ∧
    (∃ (s : State) (id : Nat) (chan : Nat) (tries : Nat) (e : TxEntry), s.radio.lbt = some ⟨none, id, chan, tries, true⟩ ∧ s.radio.txq.find? (fun x
      => x.id = id) = some e ∧ radioWaits { s with radio := { s.radio with lbt := none } } e = false ∧ (e.beacon && anchorWithin s (freeMs s e)) =
      false ∧ freeGate s e (freeChannel s e) false = .listen) ∧
    (∃ (s : State), radioUp s = true ∧ s.radio.pllFails < 2) ∧
    (∃ (s : State), radioUp s = true ∧ 2 ≤ s.radio.pllFails) ∧
    (∃ (s : State), getBit s Obj.RadioStatus 4 = true) ∧
    (∃ (s : State), coreUp s = true) :=
  ⟨⟨setObj stem Obj.TelegramInterval 60, by decide +kernel⟩,
   ⟨{ setObj stem Obj.CompatMode 1 with pw := { stem.pw with low := true } }, by decide +kernel⟩,
   ⟨{ setObj stem Obj.CompatMode 1 with radio := { stem.radio with compatWindow := true } }, hostFrame .read 0 Obj.LongWaitThreshold [], rowAt
     (frameKey (hostFrame .read 0 Obj.LongWaitThreshold [])), by decide +kernel⟩,
   ⟨{ stem with rtc := { stem.rtc with tk := 10 ^ 6 * 2 ^ 48 }, radio := { stem.radio with txq := [⟨0, 2, 5, 0x4C, [], 0, none, true⟩] } },
     by decide +kernel⟩,
   ⟨{ crown with radio := { crown.radio with event := some 5, lbt := some ⟨some 5, 0, 50, 0, false⟩ } }, 0, 0, 50, 0, 5, by decide +kernel⟩,
   ⟨{ crown with radio := { crown.radio with txq := [⟨7, 4, 0, 0x14, [], 0, some 53, false⟩], lbt := some ⟨none, 7, 50, 2, false⟩ } }, 0, 7, 50, ⟨7,
     4, 0, 0x14, [], 0, some 53, false⟩, by decide +kernel⟩,
   ⟨inRadio (setObj crown Obj.BudgetBucket 1000000) (fun x =>
     { x with txq := [⟨7, 4, 0, 0x14, [], 0, some 53, false⟩], lbt := some ⟨none, 7, 50, 1, false⟩ }), -120, 7, 50, 1, ⟨7, 4, 0, 0x14, [], 0, some
     53, false⟩, by decide +kernel⟩,
   ⟨inRadio (setMany crown [(Obj.BudgetBucket, 1000000), (Obj.BandEntry 1, obj crown (Obj.BandEntry 1) + 65536)]) (fun x =>
     { x with txq := [⟨7, 4, 0, 0x14, [], 0, some 53, false⟩], lbt := some ⟨none, 7, 50, 1, true⟩ }), 7, 50, 1, ⟨7, 4, 0, 0x14, [], 0, some 53,
     false⟩, by decide +kernel⟩,
   ⟨{ stem with radio := { stem.radio with pllFails := 1 } }, by decide +kernel⟩,
   ⟨{ stem with radio := { stem.radio with pllFails := 2 } }, by decide +kernel⟩,
   ⟨setObj stem Obj.RadioStatus 16, by decide +kernel⟩,
   ⟨stem, by decide +kernel⟩⟩

/-- The hypotheses of each clause of Joining can be met. -/
theorem witness_Joining :
    (∃ (s : State), radioUp s = true ∧ isCrown s = true ∧ obj s Obj.BeaconInterval ≠ 0 ∧ radioIdle s = true ∧ s.pw.low = false ∧ s.radio.txq = [] ∧
      s.radio.lbt = none ∧ anchorWithin s (airMs s (onAirLength (18 + (beaconPayload s).length))) = false ∧ gate s 4 (channelSpan s (obj s
      (Obj.AdvChannel 1))) (obj s (Obj.AdvChannel 1)) (airMs s (onAirLength (18 + (beaconPayload s).length))) 127 false = .send) ∧
    (∃ (s : State) (sender : BitVec 64) (f : AirFrame) (l : List Byte) (chan : Nat), listening s = true ∧ isStem s = true ∧ s.radio.event = none ∧
      airIntact f = true ∧ typeOf f = 1 ∧ openAir (obj s Obj.GroveNetworkKey) sender.toNat f = some l ∧ natOf (l.take 8) = sender.toNat ∧
      s.radio.scan = some chan ∧ obj s Obj.GroveCrownIdentity ≠ sender.toNat ∧ connected s 0 = false ∧ groveMatches s f.groveId.toNat = true ∧
      ((l[16]?).getD 0).getLsbD 0 = true) ∧
    (∃ (s : State) (sender : BitVec 64) (f : AirFrame) (l : List Byte) (i : Nat) (chan : Nat) (e : Stem), mayTransmit s = true ∧ isCrown s = true ∧
      s.radio.beaconOpen = some chan ∧ airIntact f = true ∧ typeOf f = 2 ∧ f.groveId.toNat = ownGrove s ∧ openAir (obj s Obj.GroveNetworkKey)
      sender.toNat f = some l ∧ l.length = 27 ∧ natOf (l.take 8) = sender.toNat ∧ entryHolding s sender.toNat = some i ∧ mfind s.radio.stems i = some
      e ∧ natOf ((l.drop 19).take 8) = Aes.cmac8 e.joinKey (pl 8 (obj s Obj.DeviceIdentity) ++ pl 8 sender.toNat ++ pl 8 (natOf ((l.drop 8).take 8))
      ++ [1]) ∧ slotUsable s i = true) ∧
    (∃ (s : State) (f : AirFrame) (l : List Byte) (j : JoinSt), listening s = true ∧ isStem s = true ∧ s.radio.join = some j ∧ airIntact f = true ∧
      typeOf f = 3 ∧ f.groveId.toNat = j.grove ∧ openAir (obj s Obj.GroveNetworkKey) j.crown f = some l ∧ l.length = 47 ∧ natOf (l.take 8) = obj s
      Obj.DeviceIdentity ∧ (l[8]?).getD 0 = 0 ∧ natOf (l.drop 39) = Aes.cmac8 (obj s Obj.GroveJoinKey) (nums (l.take 39) ++ pl 8 j.nonce ++ [2])) ∧
    (∃ (s : State) (f : AirFrame) (l : List Byte) (j : JoinSt), listening s = true ∧ isStem s = true ∧ s.radio.join = some j ∧ airIntact f = true ∧
      typeOf f = 3 ∧ f.groveId.toNat = j.grove ∧ openAir (obj s Obj.GroveNetworkKey) j.crown f = some l ∧ l.length = 47 ∧ natOf (l.take 8) = obj s
      Obj.DeviceIdentity ∧ (l[8]?).getD 0 ≠ 0) ∧
    (∃ (s : State), radioUp s = true ∧ isStem s = true ∧ connected s 0 = false ∧ radioIdle s = true ∧ s.radio.scanAfter ≤ ticks s ∧ (scanCharge s :
      Int) ≤ objI 4 s Obj.BudgetBucket) ∧
    (∃ (s : State) (chan : Nat), s.radio.scan = some chan ∧ isStem s = true) :=
  ⟨⟨setObj crown Obj.BudgetBucket 1000000, by decide +kernel⟩,
   ⟨{ setObj stem Obj.GroveId 65535 with radio := { stem.radio with scan := some 53, nbrs := [] } }, 40, aired 0 40 0x14 9 0 0 8 (bytesOf 8 40 ++
     bytesOf 8 0 ++ [1, 2, 0] : List Byte), bytesOf 8 40 ++ bytesOf 8 0 ++ [1, 2, 0], 53, by decide +kernel⟩,
   ⟨{ crown with radio := { crown.radio with beaconOpen := some 53 } }, 10, aired 0 10 0x24 6 0 0 8 (bytesOf 8 10 ++ bytesOf 8 123 ++ [9, 9, 9] ++
     bytesOf 8 (Aes.cmac8 ((mfind ({ crown with radio := { crown.radio with beaconOpen := some 53 } }).radio.stems (5 : Nat)).getD ⟨10, 77, false, 1,
     0, [], none⟩ : Stem).joinKey (pl 8 (obj ({ crown with radio := { crown.radio with beaconOpen := some 53 } }) Obj.DeviceIdentity) ++ pl 8 10 ++
     pl 8 123 ++ [1])) : List Byte), bytesOf 8 10 ++ bytesOf 8 123 ++ [9, 9, 9] ++ bytesOf 8 (Aes.cmac8 ((mfind
     ({ crown with radio := { crown.radio with beaconOpen := some 53 } }).radio.stems (5 : Nat)).getD ⟨10, 77, false, 1, 0, [], none⟩ : Stem).joinKey
     (pl 8 (obj ({ crown with radio := { crown.radio with beaconOpen := some 53 } }) Obj.DeviceIdentity) ++ pl 8 10 ++ pl 8 123 ++ [1])), 5, 53,
     (mfind ({ crown with radio := { crown.radio with beaconOpen := some 53 } }).radio.stems (5 : Nat)).getD ⟨10, 77, false, 1, 0, [], none⟩,
     by decide +kernel⟩,
   ⟨{ stem with radio := { stem.radio with join := some ⟨40, 9, 2, 77⟩ } }, aired 0 40 0x34 9 0 0 8 (joinHead
     ({ stem with radio := { stem.radio with join := some ⟨40, 9, 2, 77⟩ } }) 0 ++ bytesOf 8 (Aes.cmac8 (obj
     ({ stem with radio := { stem.radio with join := some ⟨40, 9, 2, 77⟩ } }) Obj.GroveJoinKey) (nums (joinHead
     ({ stem with radio := { stem.radio with join := some ⟨40, 9, 2, 77⟩ } }) 0) ++ pl 8 77 ++ [2])) : List Byte), joinHead
     ({ stem with radio := { stem.radio with join := some ⟨40, 9, 2, 77⟩ } }) 0 ++ bytesOf 8 (Aes.cmac8 (obj
     ({ stem with radio := { stem.radio with join := some ⟨40, 9, 2, 77⟩ } }) Obj.GroveJoinKey) (nums (joinHead
     ({ stem with radio := { stem.radio with join := some ⟨40, 9, 2, 77⟩ } }) 0) ++ pl 8 77 ++ [2])), ⟨40, 9, 2, 77⟩, by decide +kernel⟩,
   ⟨{ stem with radio := { stem.radio with join := some ⟨40, 9, 2, 77⟩ } }, aired 0 40 0x34 9 0 0 8 (joinHead
     ({ stem with radio := { stem.radio with join := some ⟨40, 9, 2, 77⟩ } }) 1 ++ bytesOf 8 0 : List Byte), joinHead
     ({ stem with radio := { stem.radio with join := some ⟨40, 9, 2, 77⟩ } }) 1 ++ bytesOf 8 0, ⟨40, 9, 2, 77⟩, by decide +kernel⟩,
   ⟨inRadio (setObj stem Obj.BudgetBucket 1000000) (fun x => { x with nbrs := [] }), by decide +kernel⟩,
   ⟨{ stem with radio := { stem.radio with scan := some 53 } }, 53, by decide +kernel⟩⟩

/-- The hypotheses of each clause of GroveChanges can be met. -/
theorem witness_GroveChanges :
    (∃ (s : State) (map : Nat) (first : Nat), isCrown s = true ∧ s.radio.mapChange = some (map, first) ∧ s.radio.nbrs.all (fun e => match e.2.conn
      with | some c => c.update.isNone | none => true) = true) ∧
    (∃ (s : State), pendingOf s .radio = true ∧ s.radio.air = [] ∧ s.radio.event = none ∧ rising s.pend = true) ∧
    (∃ (s : State) (p : Nat), s.radio.send = some p) :=
  ⟨⟨{ crown with radio := { crown.radio with mapChange := some (0x00FC000000000000, 0) } }, 0x00FC000000000000, 0, by decide +kernel⟩,
   ⟨{ crown with pend := [(Obj.GroveId, 9)], pendBlocks := [.radio] }, by decide +kernel⟩,
   ⟨{ crown with radio := { crown.radio with send := some 5 } }, 5, by decide +kernel⟩⟩

end Sys2Proof.Tests
end

section
/-! Maps, parts and the port side: what the layers below start from. -/

namespace Sys2Proof.Machine

/-- Removing a key that is not listed changes nothing. -/
theorem mdel_of_mfind_none {α : Type} (m : NMap α) (k : Nat) (h : mfind m k = none) : mdel m k = m := by
  induction m with
  | nil => rfl
  | cons e t ih =>
    obtain ⟨i, v⟩ := e
    by_cases hi : i = k
    · simp [mfind, hi] at h
    · simp only [mfind, hi, ↓reduceIte] at h
      simp [mdel, hi, ih h]

/-- What leaves every object alone may be said with any keys, and more parts may be named. -/
theorem Only.widen {ks : List (Nat × Nat)} {ps ps' : List Part} {s t : State} (h : Only [] ps s t) (hp : ∀ p ∈ ps, p ∈ ps') : Only ks ps' s t :=
  h.mono (fun _ _ => rfl) hp

/-- One range of keys more may be named. -/
theorem Only.cons_keys {ks : List (Nat × Nat)} {ps : List Part} {s t : State} (e : Nat × Nat) (h : Only ks ps s t) : Only (e :: ks) ps s t :=
  h.mono (fun k hk => by
    simp only [inKeys, List.any_cons, Bool.or_eq_false_iff] at hk ⊢
    exact hk.2) fun _ hp => hp

/-- A part that is not named is the same. -/
theorem Only.part {ks : List (Nat × Nat)} {ps : List Part} {s t : State} (h : Only ks ps s t) (p : Part) (hp : p ∉ ps) : p.same s t := h.2.2.2 p hp

/-! ### The tag a frame takes -/

/-- What decides whether a requester may take a tag (R247): the tag table, the store front and the limits. -/
theorem mayTakeTag_congr {s t : State} (ht : t.ports.tags = s.ports.tags) (hf : t.front = s.front) (hc : t.code = s.code) (hi : t.img = s.img)
    (q : Requester) : mayTakeTag t q = mayTakeTag s q := by
  have held : ∀ q, tagsHeld t q = tagsHeld s q := fun q => by unfold tagsHeld; rw [ht, hf]
  have free : sharedFree t = sharedFree s := by unfold sharedFree sharedUsed; simp only [held]
  unfold mayTakeTag
  rw [held, free, obj_congr hc hi]

/-! ### A frame's arrival -/

@[simp] theorem openTransaction_sessions (s : State) (r : Route) (h : Bool) : (openTransaction s r h).ports.sessions = s.ports.sessions := by cases r <;> rfl
@[simp] theorem openTransaction_tags (s : State) (r : Route) (h : Bool) : (openTransaction s r h).ports.tags = s.ports.tags := by cases r <;> rfl
@[simp] theorem openTransaction_seqs (s : State) (r : Route) (h : Bool) : (openTransaction s r h).ports.seqs = s.ports.seqs := by cases r <;> rfl
@[simp] theorem openTransaction_keyFaults (s : State) (r : Route) (h : Bool) : (openTransaction s r h).ports.keyFaults = s.ports.keyFaults := by
  cases r <;> rfl
@[simp] theorem openTransaction_pw (s : State) (r : Route) (h : Bool) : (openTransaction s r h).pw = s.pw := by cases r <;> rfl
@[simp] theorem openTransaction_img (s : State) (r : Route) (h : Bool) : (openTransaction s r h).img = s.img := by cases r <;> rfl

/-- A frame's arrival stores its session's new idle count, and of the open sequences at most a LockLimit count. -/
theorem touch_eq (s : State) (r : Route) (f : Frame) :
    ∃ m, touch s r f = { setSession s r { session s r with lastTick := ticks s } with
      ports := { (setSession s r { session s r with lastTick := ticks s }).ports with seqs := m } } := by
  unfold touch
  dsimp only
  split
  · split
    · exact ⟨_, rfl⟩
    · exact ⟨s.ports.seqs, rfl⟩
  · exact ⟨s.ports.seqs, rfl⟩

/-- Without LOCK the open sequences stay as they are. -/
theorem touch_seqs (s : State) (r : Route) (f : Frame) (h : f.flags.getLsbD 0 = false) : (touch s r f).ports.seqs = s.ports.seqs := by
  unfold touch
  dsimp only
  split
  · rw [h]; rfl
  · rfl

/-- An open sequence stays open, whatever its LockLimit count. -/
theorem seqOf_touch_isSome (s : State) (r : Route) (f : Frame) (h : (seqOf s r).isSome) : (seqOf (touch s r f) r).isSome := by
  have hs : seqOf (setSession s r { session s r with lastTick := ticks s }) r = seqOf s r := rfl
  obtain ⟨q, hq⟩ := Option.isSome_iff_exists.mp h
  have owner : q.owner = r := by
    unfold seqOf at hq
    split at hq
    · cases hq
    · split at hq
      · rename_i ho
        rw [← Option.some.inj hq, ho]
      · cases hq
  unfold touch
  simp only [hs, hq]
  split
  · simp [seqOf, owner]
  · rw [hs, hq]; rfl

/-- What a frame's arrival sets: the session's idle count, and of the open sequences at most a LockLimit count. -/
theorem arrived_eq (s : State) (r : Route) (f : Frame) : ∃ m, arrived s r f = { setSession (startCclk (openTransaction s r f.sckHigh)) r
      { session s r with lastTick := ticks s } with ports := { (setSession (startCclk (openTransaction s r f.sckHigh)) r
      { session s r with lastTick := ticks s }).ports with seqs := m } } := by
  obtain ⟨m, hm⟩ := touch_eq (startCclk (openTransaction s r f.sckHigh)) r f
  have h1 : session (startCclk (openTransaction s r f.sckHigh)) r = session s r := by simp [session]
  have h2 : ticks (startCclk (openTransaction s r f.sckHigh)) = ticks s := by cases r <;> simp [ticks, openTransaction]
  rw [h1, h2] at hm
  exact ⟨m, hm⟩

/-- A frame that has arrived has touched the port side and may have started CCLK (R111, R146). -/
theorem only_arrived (s : State) (r : Route) (f : Frame) : Only [] [.ports, .clk] s (arrived s r f) :=
  ((only_openTransaction _ s r _ (by decide)).trans (only_startCclk _ _ (by decide))).trans (only_touch _ _ r f (by decide))

@[simp] theorem arrived_tags (s : State) (r : Route) (f : Frame) : (arrived s r f).ports.tags = s.ports.tags := by
  obtain ⟨m, h⟩ := arrived_eq s r f; simp [h]
@[simp] theorem arrived_keyFaults (s : State) (r : Route) (f : Frame) : (arrived s r f).ports.keyFaults = s.ports.keyFaults := by
  obtain ⟨m, h⟩ := arrived_eq s r f; simp [h]
@[simp] theorem arrived_img (s : State) (r : Route) (f : Frame) : (arrived s r f).img = s.img := by
  obtain ⟨m, h⟩ := arrived_eq s r f; simp [h]
@[simp] theorem arrived_code (s : State) (r : Route) (f : Frame) : (arrived s r f).code = s.code := (only_arrived s r f).1
@[simp] theorem arrived_front (s : State) (r : Route) (f : Frame) : (arrived s r f).front = s.front := (only_arrived s r f).part .front (by decide)
@[simp] theorem arrived_flash (s : State) (r : Route) (f : Frame) : (arrived s r f).flash = s.flash := (only_arrived s r f).part .flash (by decide)
@[simp] theorem arrived_tally (s : State) (r : Route) (f : Frame) : (arrived s r f).tally = s.tally := (only_arrived s r f).part .tally (by decide)
@[simp] theorem arrived_radio (s : State) (r : Route) (f : Frame) : (arrived s r f).radio = s.radio := (only_arrived s r f).part .radio (by decide)
@[simp] theorem arrived_rtc (s : State) (r : Route) (f : Frame) : (arrived s r f).rtc = s.rtc := (only_arrived s r f).part .rtc (by decide)
@[simp] theorem arrived_lm (s : State) (r : Route) (f : Frame) : (arrived s r f).lm = s.lm := (only_arrived s r f).part .lm (by decide)
@[simp] theorem arrived_free (s : State) (r : Route) (f : Frame) : (arrived s r f).free = s.free := (only_arrived s r f).part .free (by decide)
@[simp] theorem arrived_pw (s : State) (r : Route) (f : Frame) : (arrived s r f).pw = s.pw := (only_arrived s r f).part .pw (by decide)

/-- An object reads as it did before the frame arrived. -/
@[simp] theorem obj_arrived (s : State) (r : Route) (f : Frame) (k : Nat) : obj (arrived s r f) k = obj s k := obj_congr (by simp) (by simp) k

/-- The session of a frame that has arrived: as it was, but for its idle count (R146). -/
@[simp] theorem session_arrived (s : State) (r : Route) (f : Frame) : session (arrived s r f) r = { session s r with lastTick := ticks s } := by
  obtain ⟨m, h⟩ := arrived_eq s r f
  rw [h]
  exact session_setSession_self _ r _

/-- A frame without LOCK leaves the open sequences as they were. -/
theorem arrived_seqs (s : State) (r : Route) (f : Frame) (h : f.flags.getLsbD 0 = false) : (arrived s r f).ports.seqs = s.ports.seqs :=
  (touch_seqs _ r f h).trans (by simp)

/-- An open sequence is open when the frame has arrived. -/
theorem seqOf_arrived_isSome (s : State) (r : Route) (f : Frame) (h : (seqOf s r).isSome) : (seqOf (arrived s r f) r).isSome :=
  seqOf_touch_isSome _ r f (by
    have e : seqOf (startCclk (openTransaction s r f.sckHigh)) r = seqOf s r := by unfold seqOf; simp
    rwa [e])

/-! ### A response on its way to its route -/

/-- Queueing a frame in a queue with room touches the radio, and starts CCLK (R111, R598). -/
theorem only_enqueueTx_room (ks : List (Nat × Nat)) {ps : List Part} (s : State) (cls peer control : Nat) (l : List Byte) (h : s.radio.txq.length < 8)
    (hr : Part.radio ∈ ps) (hc : Part.clk ∈ ps) : Only ks ps s (enqueueTx s cls peer control l) := by
  unfold enqueueTx enqueueEntry
  rw [if_neg (by omega)]
  exact (only_startCclk ks s hc).trans (only_radio ks _ _ hr)

/-- A Grove peer's response queued where there is room for it (R598). -/
theorem only_queueResponse (ks : List (Nat × Nat)) {ps : List Part} (s : State) (p : Nat) (b : List Byte) (h : responseRoom s p b = true)
    (hr : Part.radio ∈ ps) (hc : Part.clk ∈ ps) : Only ks ps s (queueResponse s p b) := by
  unfold responseRoom at h
  rw [decide_eq_true_eq] at h
  unfold queueResponse enqueueData
  split_ifs with hp hl
  · exact only_enqueueTx_room ks s _ _ _ _ (by rw [if_pos (.inl hp)] at h; omega) hr hc
  · exact only_enqueueTx_room ks s _ _ _ _ (by rw [if_pos (.inr hl)] at h; omega) hr hc
  · rw [if_neg (by omega)] at h
    refine (only_enqueueTx_room ks s _ _ _ _ (by omega) hr hc).trans (only_enqueueTx_room ks _ _ _ _ _ ?_ hr hc)
    rw [enqueueTx, enqueueEntry_txq s _ _ _ _ _ _ (by omega), List.length_append]
    simp only [List.length_singleton]
    omega

/-- The state a route leaves behind once its access has answered: SPI shifts the response out (R532), a Grove peer's goes to the radio (R569). -/
def sent (r : Route) (op : Op) (f : Frame) (t : State) : State :=
  match r with
  | .spi => spiShift f t
  | .grove p => sendGrove p op f t
  | _ => t

/-- Where a port is up, what an access leaves goes out over its route; the slave engine stays up where the access leaves the Lysef master alone (R21). -/
theorem frameIn_of_access {s t : State} {r : Route} {op : Op} {f : Frame} {late : Bool} (hp : portUp s r = true)
    (ha : access (openTransaction s r f.sckHigh) r op f late = .next t) (hm : t.lm = s.lm) : frameIn s r op f late = .next (sent r op f t) := by
  unfold frameIn
  simp only [hp, Bool.not_true, Bool.false_eq_true, ↓reduceIte, ha]
  cases r with
  | lysef =>
    have : t.lm.running = false := by
      simp only [portUp, slaveUp, Bool.and_eq_true, Bool.not_eq_true'] at hp
      rw [hm, hp.2]
    simp [this, sent, ok]
  | _ => rfl

/-- The tags a response leaves to a Grove peer: its request's own tag is free where it is on its way, and held where it waits for a slot (R569). -/
theorem deliverGrove_ports (s : State) (p : Nat) (own : Option (Nat × TagUse)) (x : Resp) :
    ∃ m, (deliverGrove s p own x).ports = { s.ports with tags := m } ∧
      (own = none → m = s.ports.tags) ∧ (∀ e, own = some e → responseRoom s p (respBytes x) = true → m = mdel s.ports.tags e.1) := by
  unfold deliverGrove
  by_cases hroom : responseRoom s p (respBytes x) = true
  · simp only [hroom, ↓reduceIte]
    cases own with
    | none =>
      have h : (queueResponse s p (respBytes x)).ports = s.ports :=
        (only_queueResponse [] (ps := [.radio, .clk]) s p _ hroom (by decide) (by decide)).part .ports (by decide)
      exact ⟨s.ports.tags, h, fun _ => rfl, nofun⟩
    | some e =>
      have h : (queueResponse (freeTag s e.1) p (respBytes x)).ports = (freeTag s e.1).ports :=
        (only_queueResponse [] (ps := [.radio, .clk]) (freeTag s e.1) p _ hroom (by decide) (by decide)).part .ports (by decide)
      refine ⟨mdel s.ports.tags e.1, h, nofun, ?_⟩
      rintro e' ⟨⟩ -
      rfl
  · simp only [hroom, Bool.false_eq_true, ↓reduceIte]
    cases own with
    | none => exact ⟨s.ports.tags, rfl, fun _ => rfl, nofun⟩
    | some e => exact ⟨_, rfl, nofun, nofun⟩

/-- A response given to a Grove peer touches the port side and the radio. -/
theorem only_deliverGrove (s : State) (p : Nat) (own : Option (Nat × TagUse)) (x : Resp) : Only [] [.ports, .clk, .radio] s (deliverGrove s p own x) := by
  unfold deliverGrove
  by_cases hroom : responseRoom s p (respBytes x) = true
  · simp only [hroom, ↓reduceIte]
    cases own with
    | none => exact only_queueResponse _ s p _ hroom (by decide) (by decide)
    | some e =>
      exact (only_ports _ s _ (by decide)).trans (only_queueResponse _ (freeTag s e.1) p _ hroom (by decide) (by decide))
  · simp only [hroom, Bool.false_eq_true, ↓reduceIte]
    cases own with
    | none => exact only_radio _ s _ (by decide)
    | some e => exact (only_ports _ s _ (by decide)).trans (only_radio _ (putTag s e.1 { e.2 with phase := .held 0 x }) _ (by decide))

/-- What goes out over a route touches the port side and, to a Grove peer, the radio. -/
theorem only_sent (r : Route) (op : Op) (f : Frame) (t : State) : Only [] [.ports, .clk, .radio] t (sent r op f t) := by
  cases r with
  | spi => exact only_ports _ t _ (by decide)
  | grove p =>
    unfold sent sendGrove
    dsimp only
    split
    · exact Only.refl _ _ t
    · split
      · exact Only.refl _ _ t
      · exact only_deliverGrove t p _ _
  | _ => exact Only.refl _ _ t

/-- Of the port side, what goes out over a route moves the tags and what SDO carries. -/
theorem sent_ports (r : Route) (op : Op) (f : Frame) (t : State) :
    ∃ m b, (sent r op f t).ports = { t.ports with tags := m, spiSdo := b } ∧
      ((∀ x, mfind t.ports.out r.num = some x → 3 < x.tag ∨ routeRoom t r x = true) → m = t.ports.tags) := by
  cases r with
  | spi => exact ⟨t.ports.tags, _, rfl, fun _ => rfl⟩
  | grove p =>
    unfold sent sendGrove
    dsimp only
    split
    · exact ⟨t.ports.tags, t.ports.spiSdo, rfl, fun _ => rfl⟩
    · rename_i x hx
      split
      · exact ⟨t.ports.tags, t.ports.spiSdo, rfl, fun _ => rfl⟩
      · obtain ⟨m, hm, hnone, hsome⟩ := deliverGrove_ports t p (if x.tag ≤ 3 ∧ (mfind t.ports.tags (tagSlot (.grove p) f.tag.toNat)).isNone then
          some (tagSlot (.grove p) f.tag.toNat, ⟨.grove p, op, f, .done x⟩) else none) x
        refine ⟨m, t.ports.spiSdo, hm, fun h => ?_⟩
        split_ifs at hnone hsome with hfree
        · have room : routeRoom t (.grove p) x = true := (h x hx).resolve_left (by omega)
          rw [hsome _ rfl room]
          exact mdel_of_mfind_none _ _ (by simpa using hfree.2)
        · exact hnone rfl
  | _ => exact ⟨t.ports.tags, t.ports.spiSdo, rfl, fun _ => rfl⟩

@[simp] theorem sent_out (r : Route) (op : Op) (f : Frame) (t : State) : (sent r op f t).ports.out = t.ports.out := by
  obtain ⟨m, b, h, _⟩ := sent_ports r op f t; rw [h]
@[simp] theorem sent_sessions (r : Route) (op : Op) (f : Frame) (t : State) : (sent r op f t).ports.sessions = t.ports.sessions := by
  obtain ⟨m, b, h, _⟩ := sent_ports r op f t; rw [h]
@[simp] theorem sent_seqs (r : Route) (op : Op) (f : Frame) (t : State) : (sent r op f t).ports.seqs = t.ports.seqs := by
  obtain ⟨m, b, h, _⟩ := sent_ports r op f t; rw [h]
@[simp] theorem session_sent (r : Route) (op : Op) (f : Frame) (t : State) (q : Route) : session (sent r op f t) q = session t q := by
  unfold session; rw [sent_sessions]

/-- A response with no tag of its own (R185), or one its route has room for, leaves the tags as they are. -/
theorem sent_tags (r : Route) (op : Op) (f : Frame) (t : State)
    (h : ∀ x, mfind t.ports.out r.num = some x → 3 < x.tag ∨ routeRoom t r x = true) : (sent r op f t).ports.tags = t.ports.tags := by
  obtain ⟨m, b, hp, hm⟩ := sent_ports r op f t
  rw [hp, hm h]

end Sys2Proof.Machine
end

section
/-! Access frames: what the checks of Table 05.6 make of one, and the statements O11, O14 and O16. -/

namespace Sys2Proof.Machine

/-! ### Frames that fail check 2 or 3 (R185) -/

/-- The objects in which the ports count their bad frames (R503, R558). -/
def frameErrorKeys : List (Nat × Nat) := [(Obj.SpiFrameErrors, Obj.SpiFrameErrors), (Obj.VicinityFrameErrors, Obj.VicinityFrameErrors)]

/-- A bad frame is answered, and counted by its port. -/
theorem only_badFrame (s : State) (r : Route) (st : Nat) : Only frameErrorKeys [.ports] s (badFrame s r st) := by
  cases r with
  | spi => exact (only_bump _ s (by decide)).trans (only_putOut _ _ _ _ (by decide))
  | vicinity => exact (only_bump _ s (by decide)).trans (only_putOut _ _ _ _ (by decide))
  | _ => exact only_putOut _ s _ _ (by decide)

/-- Of the port side a bad frame moves the response its route shows. -/
theorem badFrame_ports (s : State) (r : Route) (st : Nat) :
    (badFrame s r st).ports = { s.ports with out := mset s.ports.out r.num ⟨st, 0xFF, 0, 0, []⟩ } := by
  cases r <;> rfl

/-- A frame command is a frame on its route; the rows that cannot be late bring one in time. -/
theorem exec_frameCommand (op : Op) (r : Route) (f : Frame) (late : Bool) (s : State) :
    ∃ b, exec (frameCommand op r f late) s = frameIn s r op f b := by
  cases op <;> exact ⟨_, rfl⟩

/-- R185: what a frame leaves that its port answers with an error status. -/
theorem badFrame_effect {s : State} {r : Route} {op : Op} {f : Frame} {late : Bool} {st : Nat} (hp : portUp s r = true)
    (ha : ∀ b, access (openTransaction s r f.sckHigh) r op f b = .next (badFrame (openTransaction s r f.sckHigh) r st)) :
    Runs (frameCommand op r f late) s fun t =>
      mfind t.ports.out r.num = some ⟨st, 0xFF, 0, 0, []⟩ ∧ t.ports.sessions = s.ports.sessions ∧ t.ports.seqs = s.ports.seqs ∧
      t.ports.tags = s.ports.tags ∧ Only frameErrorKeys [.ports, .clk, .radio] s t := by
  obtain ⟨b, hb⟩ := exec_frameCommand op r f late s
  have frame : Only frameErrorKeys [.ports, .clk, .radio] s (badFrame (openTransaction s r f.sckHigh) r st) :=
    (only_openTransaction _ s r _ (by decide)).trans ((only_badFrame _ r st).mono (fun _ h => h) (by decide))
  have out : mfind (badFrame (openTransaction s r f.sckHigh) r st).ports.out r.num = some ⟨st, 0xFF, 0, 0, []⟩ := by simp [badFrame_ports]
  refine ⟨_, hb.trans (frameIn_of_access hp (ha b) (frame.part .lm (by decide))), by rw [sent_out, out], by simp [badFrame_ports],
    by simp [badFrame_ports], ?_, frame.trans ((only_sent r op f _).widen (fun _ h => h))⟩
  rw [sent_tags _ _ _ _ fun x hx => ?_]
  · simp [badFrame_ports]
  · rw [out] at hx
    cases hx
    exact .inl (show 3 < 0xFF by decide)

/-- A frame that fails check 2 (Table 05.6). -/
theorem access_of_badCrc {s : State} {r : Route} {op : Op} {f : Frame} {late : Bool} (ho : s.pw.storeOpen = true) (hl : f.len.toNat ≤ 240 ∨ r ≠ .spi)
    (hc : crcGood op f = false) : access s r op f late = .next (badFrame s r stCrc) := by
  have short : ¬(r = .spi ∧ 240 < f.len.toNat) := by rintro ⟨rfl, h⟩; rcases hl with hl | hl <;> [omega; exact hl rfl]
  unfold access
  simp [ho, short, hc, ok]

/-- A frame that fails check 3, or an SPI frame longer than any (R539). -/
theorem access_of_badForm {s : State} {r : Route} {op : Op} {f : Frame} {late : Bool} (ho : s.pw.storeOpen = true)
    (h : crcGood op f = true ∧ formGood op f = false ∨ r = .spi ∧ 240 < f.len.toNat) : access s r op f late = .next (badFrame s r stFrame) := by
  unfold access
  rcases h with ⟨hc, hf⟩ | hl
  · simp [ho, hc, hf, ok]
  · simp [ho, hl, ok]

/-- Settles O11: check 2 or 3 answers for the port, and what goes out over the route moves no tag, for the answer carries none. -/
theorem badFramesHaveNoEffect : Obligations.BadFramesHaveNoEffect := by
  unfold Obligations.BadFramesHaveNoEffect
  intro s r op f late hp ho
  have ho' : (openTransaction s r f.sckHigh).pw.storeOpen = true := by simpa using ho
  exact ⟨fun hc hl => badFrame_effect hp fun _ => access_of_badCrc ho' hl hc, fun h => badFrame_effect hp fun _ => access_of_badForm ho' h⟩

/-! ### Frames that pass checks 1 to 3 -/

/-- The length byte of a well-formed frame (R165). -/
theorem formGood_len {op : Op} {f : Frame} (h : formGood op f = true) : f.len.toNat ≤ 240 := by
  simp only [formGood, Bool.and_eq_true, decide_eq_true_eq] at h
  obtain ⟨⟨⟨⟨⟨-, hlen⟩, -⟩, -⟩, -⟩, -⟩ := h
  exact hlen

/-- A well-formed STATUS or NOP is the port's to answer, once its arrival is done (R146, R536). -/
theorem access_portAnswer {s : State} {r : Route} {f : Frame} {late : Bool} (ho : s.pw.storeOpen = true) :
    (crcGood .status f = true → formGood .status f = true →
      access (openTransaction s r f.sckHigh) r .status f late = .next (statusOf (arrived s r f) r f)) ∧
    (crcGood .nop f = true → formGood .nop f = true →
      access (openTransaction s r f.sckHigh) r .nop f late = .next (putOut (arrived s r f) r (reply f stOk []))) := by
  have ho' : (openTransaction s r f.sckHigh).pw.storeOpen = true := by simpa using ho
  refine ⟨fun hc hf => ?_, fun hc hf => ?_⟩ <;>
  · have short : ¬(r = .spi ∧ 240 < f.len.toNat) := fun h => absurd (formGood_len hf) (by omega)
    unfold access
    simp only [ho', Bool.not_true, Bool.false_eq_true, ↓reduceIte, short, hc, hf]
    rfl

/-- Any other well-formed frame that its port's buffer takes goes to the core, once its arrival is done (R118, R146). -/
theorem access_of_good {s : State} {r : Route} {op : Op} {f : Frame} {late : Bool} (ho : s.pw.storeOpen = true) (hb : bufferTakes r f = true)
    (hc : crcGood op f = true) (hf : formGood op f = true) (hop : op ≠ .status ∧ op ≠ .nop) :
    access (openTransaction s r f.sckHigh) r op f late = serve (arrived s r f) r op f late := by
  have ho' : (openTransaction s r f.sckHigh).pw.storeOpen = true := by simpa using ho
  have short : ¬(r = .spi ∧ 240 < f.len.toNat) := fun h => absurd (formGood_len hf) (by omega)
  have takes : (r.requester.host.isSome && !f.bufferFree) = false := by
    unfold bufferTakes at hb
    cases hh : r.requester.host <;> simp_all
  unfold access
  simp only [ho', Bool.not_true, Bool.false_eq_true, ↓reduceIte, short, hc, hf, takes]
  cases op with
  | status => exact absurd rfl hop.1
  | nop => exact absurd rfl hop.2
  | _ => rfl

/-- A frame of an operation that is no STATUS or NOP, on a free tag the route may take, which needs no store grant (R168, R244): it is answered at once. -/
theorem serve_grantFree {s u : State} {r : Route} {op : Op} {f : Frame} {x : Resp} (htag : mfind s.ports.tags (tagSlot r f.tag.toNat) = none)
    (hmay : mayTakeTag s r.requester = true) (hfac : f.index.toNat < 0xF000 ∨ op = .abort) (hn : needsGrant op f = false)
    (hx : perform s r op false f = (x, 0, u)) : serve s r op f false = .next (putOut u r x) := by
  have nofac : factoryAccess s r op f = false := by
    rcases hfac with h | rfl
    · simp [factoryAccess, h]
    · simp [factoryAccess]
  have answer : answerRequest s r op f = putOut u r x := by
    unfold answerRequest
    simp [hx, macHolds, hn, phaseOf]
  unfold serve
  simp [htag, hmay, nofac, mustWait, hn, answer, ok]

/-- Such a frame on a route: what its operation leaves, with the response shown, goes out. -/
theorem frameIn_grantFree {s u : State} {r : Route} {op : Op} {f : Frame} {x : Resp} (ha : routeAnswers s r = true) (hb : bufferTakes r f = true)
    (htag : mfind s.ports.tags (tagSlot r f.tag.toNat) = none) (hc : crcGood op f = true) (hf : formGood op f = true)
    (hop : op ≠ .status ∧ op ≠ .nop) (hfac : f.index.toNat < 0xF000 ∨ op = .abort) (hn : needsGrant op f = false)
    (hx : perform (arrived s r f) r op false f = (x, 0, u)) (hm : u.lm = s.lm) :
    frameIn s r op f false = .next (sent r op f (putOut u r x)) := by
  simp only [routeAnswers, Bool.and_eq_true] at ha
  obtain ⟨⟨hport, hopen⟩, hmay⟩ := ha
  refine frameIn_of_access hport ((access_of_good hopen hb hc hf hop).trans ?_) hm
  exact serve_grantFree (by simpa using htag) ((mayTakeTag_congr (by simp) (by simp) (by simp) (by simp) _).trans hmay) hfac hn hx

/-- Work that an access without a grant has not queued is not put off (R244). -/
theorem deferWork_of_same {s t : State} (hf : t.flash = s.flash) (ht : t.tally = s.tally) : deferWork s t = t := by
  unfold deferWork
  split
  · rfl
  · rw [← hf, ← ht]
    simp

/-! ### ABORT (R177) -/

/-- Closing a route slot's sequence touches the port side and the wait of a refused BEGIN (Table 07.2). -/
theorem only_closeSlot (ks : List (Nat × Nat)) {ps : List Part} (s : State) (slot : Nat) (hp : Part.ports ∈ ps) (hf : Part.front ∈ ps) :
    Only ks ps s (closeSlot s slot) :=
  (only_ports ks s _ hp).trans (only_front ks { s with ports := { s.ports with seqs := mdel s.ports.seqs slot } } _ hf)

/-- ABORT on an open sequence. -/
theorem perform_abort {s : State} {r : Route} {f : Frame} (h : (seqOf s r).isSome) :
    perform s r .abort false f = (reply f stOk [], 0, deferWork s (closeSlot s r.slot)) := by
  obtain ⟨q, hq⟩ := Option.isSome_iff_exists.mp h
  simp [perform, performIn, abortSeq, hq, needsGrant]

/-- Settles O14: ABORT takes no grant, so it is answered at once, with the slot closed. -/
theorem abortDiscardsTheSequence : Obligations.AbortDiscardsTheSequence := by
  unfold Obligations.AbortDiscardsTheSequence
  intro s r f q ha hb htag hc hf hq
  have hx : perform (arrived s r f) r .abort false f = (reply f stOk [], 0, closeSlot (arrived s r f) r.slot) := by
    rw [perform_abort (seqOf_arrived_isSome s r f (by rw [hq]; rfl)), deferWork_of_same (by simp) (by simp)]
  refine ⟨_, frameIn_grantFree ha hb htag hc hf (by decide) (.inr rfl) rfl hx (by simp), by simp [answered, reply], by simp, ?_⟩
  have closed : Only [] [.ports, .front, .clk, .radio] s (closeSlot (arrived s r f) r.slot) :=
    ((only_arrived s r f).widen (by decide)).trans (only_closeSlot _ _ _ (by decide) (by decide))
  exact (closed.trans (only_putOut _ _ r _ (by decide))).trans ((only_sent r .abort f _).widen (by decide))

/-! ### STATUS, NOP and held responses (R166, R169) -/

/-- Room for a response at its route is the radio's to say (R598). -/
theorem routeRoom_congr {s t : State} (h : t.radio = s.radio) (r : Route) (x : Resp) : routeRoom t r x = routeRoom s r x := by
  cases r <;> simp [routeRoom, responseRoom, h]

/-- A response its port gives from the state a frame's arrival leaves: shown, with the tags as they were where the route has room, and nothing else moved. -/
theorem portAnswer_effect {s : State} {r : Route} {op : Op} {f : Frame} {x : Resp} {u : State} (hu : Only [] [.ports, .clk] s u) :
    mfind (sent r op f (putOut u r x)).ports.out r.num = some x ∧
    (routeRoom s r x = true → (sent r op f (putOut u r x)).ports.tags = u.ports.tags) ∧
    Only [] [.ports, .clk, .radio] s (sent r op f (putOut u r x)) := by
  refine ⟨by simp, fun h => ?_, ((hu.widen (by decide)).trans (only_putOut _ _ _ _ (by decide))).trans (only_sent r op f _)⟩
  refine sent_tags r op f _ fun y hy => .inr ?_
  obtain rfl : x = y := by simpa using hy
  exact (routeRoom_congr (hu.part .radio (by decide)) r x).trans h

/-- STATUS on a tag that holds a response (R166). -/
theorem statusOf_held {s : State} {r : Route} {f : Frame} {u : TagUse} {n : Nat} {x : Resp}
    (h : mfind s.ports.tags (tagSlot r f.tag.toNat) = some u) (hp : u.phase = .held n x) :
    statusOf s r f = putOut (freeTag s (tagSlot r f.tag.toNat)) r x := by
  unfold statusOf
  simp [h, hp]

/-- STATUS on a tag that holds nothing (R169). -/
theorem statusOf_empty {s : State} {r : Route} {f : Frame} (h : mfind s.ports.tags (tagSlot r f.tag.toNat) = none) :
    statusOf s r f = putOut s r ⟨stOk, f.tag.toNat, 0, 0, []⟩ := by
  unfold statusOf
  simp [h]

/-- A bit just set reads 1. -/
theorem bitOf_putBit_true (v i : Nat) : bitOf (putBit v i true) i = true := by
  unfold putBit
  by_cases h : bitOf v i = true
  · simp [h]
  · have even : v / 2 ^ i % 2 = 0 := by
      simp only [bitOf, beq_iff_eq] at h
      omega
    rw [if_neg h, if_pos rfl, bitOf, Nat.add_div_right v (Nat.two_pow_pos i), beq_iff_eq]
    omega

/-- A response that reaches its port: held under its tag in its order; on SPI `IrqStatus` bit 5 is set (R166, R482). -/
theorem holdResp_effect {s : State} {slot : Nat} {u : TagUse} {x : Resp} (h : mfind s.ports.tags slot = some u)
    (hr : u.route = .spi ∨ u.route = .lysef ∨ u.route = .vicinity) :
    (mfind (holdResp s slot x).ports.tags slot).map (·.phase) = some (.held s.ports.heldOrder x) ∧
    (u.route = .spi → getBit (holdResp s slot x) Obj.IrqStatus 5 = true) ∧
    Only [(Obj.IrqStatus, Obj.IrqStatus)] [.ports] s (holdResp s slot x) := by
  have held (k : List (Nat × Nat)) (t : Ports) : Only k [.ports] s { s with ports := t } := only_ports k s t (by decide)
  unfold holdResp
  rcases hr with hr | hr | hr
  · simp only [h, hr, ↓reduceIte]
    refine ⟨by simp [irq, objBit], fun _ => ?_, (held _ _).trans (only_objBit _ _ _ _ (by decide))⟩
    simp [getBit, irq, objBit, bitOf_putBit_true]
  · simp only [h, hr, reduceCtorEq, ↓reduceIte]
    exact ⟨by simp, nofun, held _ _⟩
  · simp only [h, hr, reduceCtorEq, ↓reduceIte]
    exact ⟨by simp, nofun, held _ _⟩

/-- Settles O16: the port answers STATUS and NOP from the tag table as the frame found it; HELD_RESPONSE_READY is `holdResp`. -/
theorem statusCollectsHeldResponses : Obligations.StatusCollectsHeldResponses := by
  unfold Obligations.StatusCollectsHeldResponses
  intro s r f u n tag x
  refine ⟨fun hp ho hc hf htag hphase hx hroom => ?_, fun hp ho hc hf htag => ?_, fun hp ho hc hf => ?_, fun hu hr hphase htag => ?_⟩
  · have status : statusOf (arrived s r f) r f = putOut (freeTag (arrived s r f) (tagSlot r f.tag.toNat)) r x :=
      statusOf_held (by simpa using htag) hphase
    have hu : Only [] [.ports, .clk] s (freeTag (arrived s r f) (tagSlot r f.tag.toNat)) :=
      (only_arrived s r f).trans (only_ports _ _ _ (by decide))
    obtain ⟨out, tags, only⟩ := portAnswer_effect (op := .status) (f := f) (x := x) (r := r) hu
    refine ⟨_, frameIn_of_access hp (((access_portAnswer ho).1 hc hf).trans (congrArg _ status)) (by simp), out, ?_, only⟩
    rw [tags hroom]
    simp
  · have status : statusOf (arrived s r f) r f = putOut (arrived s r f) r ⟨stOk, f.tag.toNat, 0, 0, []⟩ := statusOf_empty (by simpa using htag)
    obtain ⟨out, tags, only⟩ := portAnswer_effect (op := .status) (f := f) (x := ⟨stOk, f.tag.toNat, 0, 0, []⟩) (r := r) (only_arrived s r f)
    exact ⟨_, frameIn_of_access hp (((access_portAnswer ho).1 hc hf).trans (congrArg _ status)) (by simp), out,
      fun hroom => (tags hroom).trans (by simp), only⟩
  · obtain ⟨out, tags, only⟩ := portAnswer_effect (op := .nop) (f := f) (x := reply f stOk []) (r := r) (only_arrived s r f)
    exact ⟨_, frameIn_of_access hp ((access_portAnswer ho).2 hc hf) (by simp), by rw [answered, out]; rfl,
      fun hroom => (tags hroom).trans (by simp), only⟩
  · obtain ⟨held, irq5, only⟩ := holdResp_effect (x := x) htag (by rwa [hu])
    refine ⟨holdResp s (tagSlot r tag) x, ?_, held, fun h => irq5 (hu.trans h), only⟩
    show execHeldResponseReady r tag s = _
    unfold execHeldResponseReady
    rcases hr with rfl | rfl | rfl <;> simp [htag, hphase, ok]

end Sys2Proof.Machine
end

section
/-! Authentication (R142 to R147): the host's frames for it, a session's end, and the statement O17. -/

namespace Sys2Proof.Machine

/-! ### The number of some bytes (R134) -/

/-- Bytes behind a number that has been read. -/
theorem foldl_bytes (l : List Byte) (a : Nat) : l.foldl (fun a b => a * 256 + b.toNat) a = a * 256 ^ l.length + natOf l := by
  induction l generalizing a with
  | nil => simp [natOf]
  | cons b t ih =>
    rw [natOf, List.foldl_cons, List.foldl_cons, ih, ih (0 * 256 + b.toNat), List.length_cons]
    ring

/-- One byte before others. -/
theorem natOf_cons (b : Byte) (l : List Byte) : natOf (b :: l) = b.toNat * 256 ^ l.length + natOf l := by
  rw [natOf, List.foldl_cons, foldl_bytes]
  simp

/-- The number of its own bytes. -/
theorem natOf_bytesOf (n v : Nat) : natOf (bytesOf n v) = v % 256 ^ n := by
  induction n with
  | zero => simp [bytesOf, natOf, Nat.mod_one]
  | succ k ih =>
    have h : v % 256 ^ (k + 1) = v % 256 ^ k + 256 ^ k * (v / 256 ^ k % 256) := by rw [Nat.pow_succ, Nat.mod_mul]
    rw [bytesOf, natOf_cons, ih, bytesOf_length, h, BitVec.toNat_ofNat]
    ring

/-! ### A host's frame (log entry 44) -/

/-- A host's request that needs no grant, on a route that answers with the host's next tag free: what its operation leaves, with the response shown. -/
theorem hostAccess_grantFree {s u : State} {r : Route} {op : Op} {key : Nat} {data : List Byte} {x : Resp} (ha : hostAnswers s r = true)
    (hd : data.length ≤ 240) (hk : key < 0xF00000) (hop : op ≠ .status ∧ op ≠ .nop)
    (hn : needsGrant op (hostFrame op (nextTag s r) key data) = false)
    (hx : perform (arrived s r (hostFrame op (nextTag s r) key data)) r op false (hostFrame op (nextTag s r) key data) = (x, 0, u))
    (hm : u.lm = s.lm) :
    hostAccess s r op key data = .next (sent r op (hostFrame op (nextTag s r) key data) (putOut u r x)) := by
  simp only [hostAnswers, Bool.and_eq_true, Option.isNone_iff_eq_none] at ha
  obtain ⟨hroute, htag⟩ := ha
  have tag : (hostFrame op (nextTag s r) key data).tag.toNat = nextTag s r :=
    (BitVec.toNat_ofNat _ _).trans (Nat.mod_eq_of_lt (by have := nextTag_le s r; omega))
  refine frameIn_grantFree hroute ?_ (by rwa [tag]) (crcGood_hostFrame _ _ _ _) (formGood_hostFrame _ _ _ _ (nextTag_le s r) hd) hop (.inl ?_) hn hx hm
  · simp [bufferTakes, hostFrame]
  · rw [(hostFrame_key op _ key data (by omega)).1]
    omega

/-- What a host sees of such a request: the response shown, the session and the sequences the operation left, and what the operation touched. -/
theorem hostAccess_effect {ks : List (Nat × Nat)} {ps : List Part} {s u : State} {r : Route} {op : Op} {key : Nat} {data : List Byte} {x : Resp}
    (ha : hostAnswers s r = true) (hd : data.length ≤ 240) (hk : key < 0xF00000) (hop : op ≠ .status ∧ op ≠ .nop)
    (hn : needsGrant op (hostFrame op (nextTag s r) key data) = false)
    (hx : perform (arrived s r (hostFrame op (nextTag s r) key data)) r op false (hostFrame op (nextTag s r) key data) = (x, 0, u))
    (ho : Only ks ps (arrived s r (hostFrame op (nextTag s r) key data)) u) (hps : ∀ p ∈ [Part.ports, .clk, .radio], p ∈ ps) (hl : Part.lm ∉ ps) :
    ∃ t, hostAccess s r op key data = .next t ∧ mfind t.ports.out r.num = some x ∧ session t r = session u r ∧ t.ports.seqs = u.ports.seqs ∧
      Only [] [.ports, .clk, .radio] u t ∧ Only ks ps s t := by
  have touched : Only [] [.ports, .clk, .radio] u (sent r op (hostFrame op (nextTag s r) key data) (putOut u r x)) :=
    (only_putOut _ u r x (by decide)).trans (only_sent r op _ _)
  have frame : Only ks ps s u := ((only_arrived s r _).widen fun p hp => hps p (by revert hp; cases p <;> decide)).trans ho
  exact ⟨_, hostAccess_grantFree ha hd hk hop hn hx (frame.part .lm hl), by simp, by rw [session_sent]; rfl, by simp, touched,
    frame.trans (touched.widen hps)⟩

/-- Storing a session touches the port side. -/
theorem only_setSession (ks : List (Nat × Nat)) {ps : List Part} (s : State) (r : Route) (x : Session) (hm : Part.ports ∈ ps) :
    Only ks ps s (setSession s r x) :=
  only_ports ks s _ hm

/-! ### The challenge (R143) -/

theorem lookup_authChallenge (c : OrderCode) : lookup c 0x1018 0 = .obj ⟨0x1018, 0, 0, 8, false, .r, false, 0, .any, none, .all, [0], []⟩ := by
  cases c <;> decide +kernel

/-- The 8 bytes of the next challenge (log entry 5). -/
abbrev nextChallenge (s : State) : BitVec 64 := BitVec.ofNat 64 (Config.freeValue s.free)

/-- The state once a route has drawn it. -/
abbrev challenged (s : State) (r : Route) : State := setSession { s with free := s.free + 1 } r { session s r with challenge := some (nextChallenge s) }

/-- A READ of `AuthChallenge` without LOCK draws the route's one valid challenge. -/
theorem perform_authChallenge (s : State) (r : Route) {f : Frame} (hi : f.index.toNat = 0x1018) (hs : f.sub.toNat = 0) (hl : f.flags.getLsbD 0 = false) :
    perform s r .read false f = (reply f stOk (bytesOf 8 (nextChallenge s).toNat), 0, challenged s r) := by
  have value : readValue s r false 0x1018 0 = authChallenge s r := by
    simp [readValue, lookup_authChallenge, shownValue, readObj]
  have short (v : Nat) : (bytesOf 8 v).take 240 = bytesOf 8 v := List.take_of_length_le (by simp)
  have done : performIn s r .read false f = (reply f stOk (bytesOf 8 (nextChallenge s).toNat), 0, challenged s r) := by
    simp only [performIn, lockCheck, readFrom, hi, hs, hl, value]
    simp only [actsAtOnce, decide_true, Bool.true_or, ↓reduceIte, stOk, stFrame, authChallenge, draw, grantFree, Bool.not_true, Bool.and_false]
    simp [short, session, challenged, nextChallenge]
  have free : needsGrant .read f = false := by simp [needsGrant, grantFree, actsAtOnce, hi]
  unfold perform
  rw [done]
  simp only [free, Bool.false_eq_true, ↓reduceIte]
  rw [deferWork_of_same (by simp) (by simp)]

/-! ### The response (R145) -/

theorem lookup_authResponse (c : OrderCode) : lookup c 0x1019 0 = .obj ⟨0x1019, 0, 0, 9, false, .w, false, 0, .any, none, .all, [0], []⟩ := by
  cases c <;> decide +kernel

/-- A WRITE of 9 bytes with a level of R142 to `AuthResponse` passes checks 7 to 13. -/
theorem writeCheck_authResponse (s : State) (r : Route) {data : List Byte} (hd : data.length = 9) (h1 : 1 ≤ natOf data / 2 ^ 64)
    (h4 : natOf data / 2 ^ 64 ≤ 4) : ∃ d, writeCheck s r false 0x1019 0 data = (stOk, some d) := by
  have range : inRange s ⟨0x1019, 0, 0, 9, false, .w, false, 0, .any, none, .all, [0], []⟩ 0x101900 (natOf data) = true := by
    simp [inRange, Rng.holds, valueOk]
    omega
  refine ⟨⟨0x1019, 0, 0, 9, false, .w, false, 0, .any, none, .all, [0], []⟩, ?_⟩
  simp [writeCheck, lookup_authResponse, allowed, carriesKey, hd, range]

/-- An object whose accesses act at once is written past the open sequence and without a grant (R178, R244). -/
theorem perform_actsAtOnce {s t : State} {r : Route} {f : Frame} {d : ObjDef} {x : Resp} (ha : actsAtOnce f.index.toNat = true)
    (hc : writeCheck s r false f.index.toNat f.sub.toNat f.data = (stOk, some d)) (hw : writeNow s r d false f = (x, 0, t)) :
    perform s r .write false f = (x, 0, deferWork s t) := by
  have free : needsGrant .write f = false := by simp [needsGrant, grantFree, ha]
  have write : writeFrame s r false false f = (x, 0, t) := by simp [writeFrame, ha, hc, stOk, hw]
  unfold perform performIn
  simp only [lockCheck, ha, ↓reduceIte, stOk, stFrame, write, free]
  simp

/-- A WRITE of a level of R142 and 8 more bytes to `AuthResponse` is their check (R145). -/
theorem perform_authResponse {s t : State} {r : Route} {f : Frame} {st : Nat} {b : List Byte} (hi : f.index.toNat = 0x1019) (hs : f.sub.toNat = 0)
    (hd : f.data.length = 9) (h1 : 1 ≤ natOf f.data / 2 ^ 64) (h4 : natOf f.data / 2 ^ 64 ≤ 4) (h : authRespond s r f.data = (st, b, t)) :
    perform s r .write false f = (reply f st b, 0, deferWork s t) := by
  obtain ⟨d, hc⟩ := writeCheck_authResponse s r hd h1 h4
  refine perform_actsAtOnce (d := d) (by rw [hi]; rfl) (by rw [hi, hs, hc]) ?_
  simp [writeNow, hi, h]

/-- A matching response: the session stands at the level, its challenge is spent. -/
theorem authRespond_match {s : State} {r : Route} {level : Byte} {mac : BitVec 64} {c : BitVec 64} (hl : (session s r).locked = false)
    (hf : s.ports.keyFaults.contains level.toNat = false) (hc : (session s r).challenge = some c)
    (hm : mac.toNat = Aes.cmac8 (obj s (Obj.LevelKey level.toNat)) (authMessage s r c level.toNat)) :
    authRespond s r ([level] ++ bytesOf 8 mac.toNat) =
      (stOk, bytesOf 4 0, setSession s r { session s r with level := level.toNat, challenge := none }) := by
  have hmac : natOf (bytesOf 8 mac.toNat) = mac.toNat := (natOf_bytesOf _ _).trans (Nat.mod_eq_of_lt mac.isLt)
  have hlev : natOf [level] = level.toNat := by simp [natOf]
  unfold authRespond
  simp only [List.singleton_append, List.take_succ_cons, List.take_zero, List.drop_succ_cons, List.drop_zero, hlev, hl, hf, hc,
    Bool.false_eq_true, ↓reduceIte]
  rw [if_pos (hmac.trans hm)]

/-- Any other response, or one without a valid challenge, fails. -/
theorem authRespond_fail {s : State} {r : Route} {level : Byte} {mac : BitVec 64} (hl : (session s r).locked = false)
    (hf : s.ports.keyFaults.contains level.toNat = false) (hm : ∀ c, (session s r).challenge = some c →
      mac.toNat ≠ Aes.cmac8 (obj s (Obj.LevelKey level.toNat)) (authMessage s r c level.toNat)) :
    authRespond s r ([level] ++ bytesOf 8 mac.toNat) = (stDenied, [], authFail s r level.toNat) := by
  have hmac : natOf (bytesOf 8 mac.toNat) = mac.toNat := (natOf_bytesOf _ _).trans (Nat.mod_eq_of_lt mac.isLt)
  have hlev : natOf [level] = level.toNat := by simp [natOf]
  unfold authRespond
  simp only [List.singleton_append, List.take_succ_cons, List.take_zero, List.drop_succ_cons, List.drop_zero, hlev, hmac, hl, hf,
    Bool.false_eq_true, ↓reduceIte]
  cases hc : (session s r).challenge with
  | none => rfl
  | some c => simp [hm c hc]

/-! ### A response that fails -/

/-- An event that waits in the queue goes on waiting when another is raised. -/
theorem queued_raise (s : State) (code : Nat) (p : List Nat) {c time : Nat} {q : List Nat} (h : queued s c time q = true) :
    queued (raise s code p) c time q = true := by
  have tally : (raise s code p).tally = (queueEvent s ⟨code, t48 s, p⟩).tally := raiseAt_tally s code (t48 s) p
  unfold queued at h ⊢
  rw [tally]
  unfold queueEvent
  split
  · exact h
  · simp only [List.contains_iff_mem, List.mem_append] at h ⊢
    exact .inl h

/-- The failure counts of L1 to L4 are no object an event moves. -/
theorem authFailCount_not_event : ∀ l, l ≤ 4 → inKeys eventKeys (Obj.AuthFailCount l) = false := by decide

/-- Nor is one of them `StoreStage`. -/
theorem storeStage_not_authFailCount : ∀ l, l ≤ 4 → inKeys [(Obj.AuthFailCount l, Obj.AuthFailCount l)] Obj.StoreStage = false := by decide

/-- `ArbiterFreeze` is none of the objects a failed response moves. -/
theorem arbiterFreeze_not_authFail : ∀ l, l ≤ 4 → inKeys ((Obj.AuthFailCount l, Obj.AuthFailCount l) :: eventKeys) Obj.ArbiterFreeze = false := by
  decide

/-- Storing an object gives it its value. -/
theorem obj_storeObj_self (s : State) (k v : Nat) : obj (storeObj s k v) k = v := by
  have h : Only [] [.flash, .clk] (setMany s [(k, v)]) (storeObj s k v) := only_journal _ _ _ (by decide) (by decide)
  exact (h.2.2.1 k rfl).trans (obj_setObj_self s k v)

/-- Storing an object touches it, the journal queue and CCLK. -/
theorem only_storeObj (s : State) (k v : Nat) : Only [(k, k)] [.flash, .clk] s (storeObj s k v) :=
  only_commitObjs s _ (by simp [inKeys]) (by decide) (by decide)

/-- The count of a failed response (R145), before its events. -/
def authFailCounted (s : State) (r : Route) (level : Nat) (x : Session) : State :=
  storeObj (setSession s r x) (Obj.AuthFailCount level) ((obj (setSession s r x) (Obj.AuthFailCount level) + 1) % 2 ^ 32)

/-- A failed response: the session at L0 without a challenge, the level's count, and AUTH_FAIL, behind which a lockout may log its own event (R147). -/
theorem authFail_eq (s : State) (r : Route) (level : Nat) : ∃ x : Session, x.level = 0 ∧ x.challenge = none ∧
    (authFail s r level = raise (authFailCounted s r level x) 0x1010 ∨ authFail s r level = raise (raise (authFailCounted s r level x) 0x1010) 0x1011) := by
  unfold authFail
  dsimp only
  split
  · refine ⟨_, ?_, ?_, .inr rfl⟩ <;> rfl
  · refine ⟨_, ?_, ?_, .inl rfl⟩ <;> rfl

/-- What a failed response leaves (R145). -/
theorem authFail_effect (s : State) (r : Route) {level : Nat} (hl : level ≤ 4) :
    (session (authFail s r level) r).level = 0 ∧ (session (authFail s r level) r).challenge = none ∧
    obj (authFail s r level) (Obj.AuthFailCount level) = next32 (obj s (Obj.AuthFailCount level)) ∧
    (eventRoom s = true → queued (authFail s r level) 0x1010 (t48 s) [] = true) ∧
    Only ((Obj.AuthFailCount level, Obj.AuthFailCount level) :: eventKeys) [.ports, .clk, .flash, .tally, .radio] s (authFail s r level) := by
  obtain ⟨x, hx0, hxc, hcases⟩ := authFail_eq s r level
  have counted : Only [(Obj.AuthFailCount level, Obj.AuthFailCount level)] [.flash, .clk] (setSession s r x) (authFailCounted s r level x) :=
    only_storeObj _ _ _
  have events : Only eventKeys eventParts (authFailCounted s r level x) (authFail s r level) := by
    rcases hcases with h | h <;> rw [h]
    · exact only_raise _ _ _
    · exact (only_raise _ _ _).trans (only_raise _ _ _)
  have sess : session (authFail s r level) r = x := by
    have hp : (authFail s r level).ports = (setSession s r x).ports := (counted.part .ports (by decide)).trans (events.part .ports (by decide))
    unfold session
    rw [hp]
    exact session_setSession_self s r x
  have count : obj (authFail s r level) (Obj.AuthFailCount level) = next32 (obj s (Obj.AuthFailCount level)) :=
    (events.2.2.1 _ (authFailCount_not_event level hl)).trans (obj_storeObj_self _ _ _)
  refine ⟨by rw [sess, hx0], by rw [sess, hxc], count, fun hroom => ?_, ?_⟩
  · have stage : inKeys [(Obj.AuthFailCount level, Obj.AuthFailCount level)] Obj.StoreStage = false := storeStage_not_authFailCount level hl
    have room : eventRoom (authFailCounted s r level x) = true := by
      unfold eventRoom at hroom ⊢
      rw [counted.part .tally (by decide), counted.2.2.1 _ stage]
      exact hroom
    have time : t48 (authFailCounted s r level x) = t48 s := by
      unfold t48
      rw [counted.part .rtc (by decide)]
      rfl
    have first : queued (raise (authFailCounted s r level x) 0x1010) 0x1010 (t48 s) [] = true := by
      rw [← time]
      exact queued_raiseAt _ _ _ _ room
    rcases hcases with h | h <;> rw [h]
    · exact first
    · exact queued_raise _ _ _ first
  · have stored : Only [] [.ports] s (setSession s r x) := only_ports _ s _ (by decide)
    refine ((stored.widen (by decide)).trans (counted.mono (fun k h => ?_) (by decide))).trans ((events.cons_keys _).mono (fun _ h => h) (by decide))
    simp only [inKeys, List.any_cons, List.any_nil, Bool.or_eq_false_iff] at h ⊢
    exact ⟨h.1, trivial⟩

/-- An update of the flash and the tally part. -/
theorem only_flash_tally (ks : List (Nat × Nat)) {ps : List Part} (s : State) (x : Flash) (y : Tally) (hf : Part.flash ∈ ps) (ht : Part.tally ∈ ps) :
    Only ks ps s { s with flash := x, tally := y } :=
  (only_flash ks s x hf).trans (only_tally ks { s with flash := x } y ht)

/-- What an access has queued may be put off, and nothing else (R244). -/
theorem only_deferWork (ks : List (Nat × Nat)) {ps : List Part} (s t : State) (hf : Part.flash ∈ ps) (ht : Part.tally ∈ ps) :
    Only ks ps t (deferWork s t) := by
  unfold deferWork
  dsimp only
  split
  · exact Only.refl _ _ t
  · exact only_flash_tally ks t _ _ hf ht

/-- The bytes a host writes to `AuthResponse`: the level, then the MAC. -/
abbrev responseBytes (level : Byte) (mac : BitVec 64) : List Byte := [level] ++ bytesOf 8 mac.toNat

/-- The level is the response's first byte. -/
theorem natOf_responseBytes (level : Byte) (mac : BitVec 64) : natOf (responseBytes level mac) / 2 ^ 64 = level.toNat := by
  rw [responseBytes, List.singleton_append, natOf_cons, natOf_bytesOf, bytesOf_length]
  have := mac.isLt
  omega

/-- The frame in which a host writes them. -/
abbrev responseFrame (s : State) (r : Route) (level : Byte) (mac : BitVec 64) : Frame :=
  hostFrame .write (nextTag s r) Obj.AuthResponse (responseBytes level mac)

/-- AUTH_RESPONSE, whatever the check of the response answers. -/
theorem authResponse_effect {ks : List (Nat × Nat)} {ps : List Part} {s t : State} {r : Route} {level : Byte} {mac : BitVec 64} {st : Nat}
    {b : List Byte} (ha : hostAnswers s r = true) (h1 : 1 ≤ level.toNat) (h4 : level.toNat ≤ 4)
    (hx : authRespond (arrived s r (responseFrame s r level mac)) r (responseBytes level mac) = (st, b, t))
    (ho : Only ks ps (arrived s r (responseFrame s r level mac)) (deferWork (arrived s r (responseFrame s r level mac)) t))
    (hps : ∀ p ∈ [Part.ports, .clk, .radio], p ∈ ps) (hl : Part.lm ∉ ps) :
    Runs (.authResponse r level mac) s fun v => answered v r = some st ∧
      session v r = session (deferWork (arrived s r (responseFrame s r level mac)) t) r ∧
      Only [] [.ports, .clk, .radio] (deferWork (arrived s r (responseFrame s r level mac)) t) v ∧ Only ks ps s v := by
  obtain ⟨v, hv, out, sess, -, touched, only⟩ := hostAccess_effect (key := Obj.AuthResponse) (data := responseBytes level mac) ha (by simp) (by decide)
    (by decide) rfl (perform_authResponse rfl rfl (by simp [hostFrame]) (h1.trans_eq (natOf_responseBytes level mac).symm)
      ((natOf_responseBytes level mac).trans_le h4) hx) ho hps hl
  exact ⟨v, hv, by rw [answered, out]; rfl, sess, touched, only⟩

/-- Settles O17: each of the three is one host frame on an object that acts at once, so it is answered without a grant. -/
theorem challengeAndResponse : Obligations.ChallengeAndResponse := by
  unfold Obligations.ChallengeAndResponse
  intro s r level mac
  refine ⟨fun ha => ?_, fun c ha h1 h4 hl hf hc hm => ?_, fun ha h1 h4 hl hf hm => ?_⟩
  · obtain ⟨t, ht, out, sess, -, -, only⟩ := hostAccess_effect (key := Obj.AuthChallenge) (data := []) (ks := []) (ps := [.ports, .clk, .radio, .free])
      ha (by decide) (by decide) (by decide) rfl (perform_authChallenge _ r rfl rfl (by simp [hostFrame]))
      ((only_free _ _ _ (by decide)).trans (only_setSession _ _ _ _ (by decide))) (by decide) (by decide)
    rw [session_setSession_self, nextChallenge, arrived_free] at sess
    rw [nextChallenge, arrived_free] at out
    exact ⟨t, ht, by rw [sess], by rw [out]; rfl, by rw [sess, session_arrived], only⟩
  · have respond := authRespond_match (s := arrived s r (responseFrame s r level mac)) (r := r) (level := level) (mac := mac) (c := c)
      (by simpa using hl) (by simpa using hf) (by simpa using hc) (by simpa [authMessage] using hm)
    have defer := deferWork_of_same (s := arrived s r (responseFrame s r level mac)) (t := setSession (arrived s r (responseFrame s r level mac)) r
      { session (arrived s r (responseFrame s r level mac)) r with level := level.toNat, challenge := none }) rfl rfl
    obtain ⟨t, ht, out, sess, -, only⟩ := authResponse_effect (ks := []) (ps := [.ports, .clk, .radio]) ha h1 h4 respond
      (by rw [defer]; exact only_setSession _ _ _ _ (by decide)) (by decide) (by decide)
    rw [defer, session_setSession_self] at sess
    exact ⟨t, ht, out, by rw [sess], by rw [sess], only⟩
  · have respond := authRespond_fail (s := arrived s r (responseFrame s r level mac)) (r := r) (level := level) (mac := mac)
      (by simpa using hl) (by simpa using hf) (by simpa [authMessage] using hm)
    obtain ⟨hlevel, hchallenge, hcount, hqueued, hfail⟩ := authFail_effect (arrived s r (responseFrame s r level mac)) r h4
    have defer := only_deferWork [] (ps := [.flash, .tally]) (arrived s r (responseFrame s r level mac))
      (authFail (arrived s r (responseFrame s r level mac)) r level.toNat) (by decide) (by decide)
    obtain ⟨t, ht, out, sess, touched, only⟩ := authResponse_effect ha h1 h4 respond
      (hfail.trans (only_deferWork _ _ _ (by decide) (by decide))) (by decide) (by decide)
    have sess' : session t r = session (authFail (arrived s r (responseFrame s r level mac)) r level.toNat) r := by
      rw [sess, session, defer.part .ports (by decide)]
      rfl
    refine ⟨t, ht, out, by rw [sess', hlevel], by rw [sess', hchallenge], ?_, fun hroom hfreeze => ?_, only⟩
    · rw [touched.2.2.1 _ rfl, defer.2.2.1 _ rfl, hcount, obj_arrived]
    · have thawed : obj (authFail (arrived s r (responseFrame s r level mac)) r level.toNat) Obj.ArbiterFreeze = 0 := by
        rw [hfail.2.2.1 _ (arbiterFreeze_not_authFail _ h4), obj_arrived, hfreeze]
      rw [deferWork, if_pos thawed] at touched
      have log := hqueued (by simpa [eventRoom] using hroom)
      unfold queued at log ⊢
      rw [touched.part .tally (by decide)]
      simpa [t48] using log

end Sys2Proof.Machine
end

section
/-! The end of a session (R146) where the machine stays up: logout, the idle limit, a lockout's end. -/

namespace Sys2Proof.Machine

/-! ### A freeze's end (R246) -/

/-- What stands in a record list after one is put in its place. -/
theorem mem_insertRec (r x : Rec) (l : List Rec) : x ∈ insertRec r l ↔ x = r ∨ x ∈ l := by
  induction l with
  | nil => simp [insertRec]
  | cons a t ih =>
    unfold insertRec
    split
    · simp
    · simp only [List.mem_cons, ih]
      tauto

/-- Work let go comes from the writer's queue or from what the freeze has held (R244). -/
theorem mem_releaseWork (s : State) (x : Rec) (h : x ∈ (releaseWork s).flash.commits) : x ∈ s.flash.commits ++ s.flash.heldRecs := by
  have fold (held l : List Rec) (h : x ∈ held.foldl (fun l r => insertRec r l) l) : x ∈ l ++ held := by
    induction held generalizing l with
    | nil => simpa using h
    | cons a t ih =>
      have := ih _ h
      simp only [List.mem_append, mem_insertRec, List.mem_cons] at this ⊢
      tauto
  exact fold _ _ h

/-- The objects a freeze's end moves: `ArbiterFreeze`, and those of its event. -/
abbrev freezeKeys : List (Nat × Nat) := (Obj.ArbiterFreeze, Obj.ArbiterFreeze) :: eventKeys

/-- What the end of a freeze leaves. -/
theorem endFreeze_effect (s : State) :
    obj (endFreeze s) Obj.ArbiterFreeze = 0 ∧ (endFreeze s).front.freezeBy = none ∧
    (∀ x ∈ (endFreeze s).flash.commits, x ∈ s.flash.commits ++ s.flash.heldRecs) ∧
    Only freezeKeys [.front, .flash, .tally, .radio, .clk] s (endFreeze s) := by
  have stored : Only freezeKeys [.front, .flash, .tally, .radio, .clk] s
      (releaseWork (setObj { s with front := { s.front with freezeBy := none, freezeTicks := 0 } } Obj.ArbiterFreeze 0)) :=
    ((only_front _ s _ (by decide)).trans (only_setObj _ _ 0 (by decide))).trans (only_flash_tally _ _ _ _ (by decide) (by decide))
  have event : Only eventKeys eventParts _ (endFreeze s) :=
    only_raise (releaseWork (setObj { s with front := { s.front with freezeBy := none, freezeTicks := 0 } } Obj.ArbiterFreeze 0)) 0x4103 []
  have flash : (endFreeze s).flash =
      (releaseWork (setObj { s with front := { s.front with freezeBy := none, freezeTicks := 0 } } Obj.ArbiterFreeze 0)).flash :=
    event.part .flash (by decide)
  refine ⟨?_, ?_, fun x hx => ?_, stored.trans ((event.cons_keys _).mono (fun _ h => h) (by decide))⟩
  · rw [event.2.2.1 _ (by decide)]
    exact obj_setObj_self { s with front := { s.front with freezeBy := none, freezeTicks := 0 } } Obj.ArbiterFreeze 0
  · exact congrArg Front.freezeBy (event.part .front (by decide))
  · rw [flash] at hx
    exact mem_releaseWork _ x hx

/-! ### A session's end -/

/-- A route's session at L0, without a challenge (R142, R146). -/
def Ended (r : Route) (s : State) : Prop := (session s r).level = 0 ∧ (session s r).challenge = none

/-- A session that has ended. -/
abbrev endedSession (s : State) (r : Route) : Session := { session s r with level := 0, challenge := none }

/-- Where the route has set no freeze, its session alone ends. -/
theorem endSession_eq_of_not {s : State} {r : Route} (h : obj s Obj.ArbiterFreeze = 0 ∨ s.front.freezeBy ≠ some r) :
    endSession s r = setSession s r (endedSession s r) := by
  unfold endSession
  exact if_neg fun hc => h.elim (fun h0 => hc.2 h0) fun hn => hn hc.1

/-- A freeze the route has set ends with its session (R246). -/
theorem endSession_eq_of_freeze {s : State} {r : Route} (hb : s.front.freezeBy = some r) (hf : obj s Obj.ArbiterFreeze ≠ 0) :
    endSession s r = endFreeze (setSession s r (endedSession s r)) :=
  if_pos ⟨hb, hf⟩

/-- Of the port side a session's end moves the sessions. -/
theorem endSession_ports (s : State) (r : Route) : (endSession s r).ports = (setSession s r (endedSession s r)).ports := by
  obtain ⟨-, -, -, only⟩ := endFreeze_effect (setSession s r (endedSession s r))
  unfold endSession
  dsimp only
  split
  · exact only.part .ports (by decide)
  · rfl

/-- A session that has ended stands at L0 without a challenge. -/
theorem ended_endSession (s : State) (r : Route) : Ended r (endSession s r) := by
  have h : session (endSession s r) r = endedSession s r := by
    unfold session
    rw [endSession_ports]
    exact session_setSession_self s r _
  exact ⟨by rw [h], by rw [h]⟩

/-- A session's end queues no new journal work: it lets go what a freeze has held (R244). -/
theorem mem_endSession (s : State) (r : Route) (x : Rec) (h : x ∈ (endSession s r).flash.commits) : x ∈ s.flash.commits ++ s.flash.heldRecs := by
  obtain ⟨-, -, held, -⟩ := endFreeze_effect (setSession s r (endedSession s r))
  unfold endSession at h
  dsimp only at h
  split at h
  · exact held x h
  · exact List.mem_append_left _ h

/-- A session's end touches the port side, and with a freeze of its route what ends that. -/
theorem only_endSession (s : State) (r : Route) : Only freezeKeys [.ports, .front, .clk, .flash, .tally, .radio] s (endSession s r) := by
  obtain ⟨-, -, -, only⟩ := endFreeze_effect (setSession s r (endedSession s r))
  have stored : Only freezeKeys [.ports, .front, .clk, .flash, .tally, .radio] s (setSession s r (endedSession s r)) :=
    only_setSession _ s r _ (by decide)
  unfold endSession
  exact ite_both (P := Only freezeKeys [.ports, .front, .clk, .flash, .tally, .radio] s) (stored.trans (only.mono (fun _ h => h) (by decide))) stored

/-! ### AUTH_LOGOUT (R146) -/

theorem lookup_authLogout (c : OrderCode) : lookup c 0x101B 0 = .obj ⟨0x101B, 0, 0, 1, false, .x, false, 0, .oneOf [1], none, .all, [0], []⟩ := by
  cases c <;> decide +kernel

/-- 0x01 written to `AuthLogout` passes checks 7 to 13. -/
theorem writeCheck_authLogout (s : State) (r : Route) : ∃ d, d.kind = .x ∧ writeCheck s r false 0x101B 0 [1] = (stOk, some d) := by
  refine ⟨⟨0x101B, 0, 0, 1, false, .x, false, 0, .oneOf [1], none, .all, [0], []⟩, rfl, ?_⟩
  simp only [writeCheck, lookup_authLogout]
  simp [allowed, carriesKey, inRange, Rng.holds, valueOk, natOf, carryOut, action, done, stBusy, stFull, stOk]

/-- An access that queues no journal work goes through the store with transaction number 0, in every store stage (R161, R211). -/
theorem storeRun_of_noWork {s t : State} {f : State → Nat × State} (hf : f s = (stOk, t)) (hn : freshRecs s t = [])
    (hr : freshRecs s (f (setObj s Obj.StoreStage 0)).2 = []) : storeRun s f = (stOk, [], 0, t) := by
  have one : oneTxn s t = (0, t) := by simp [oneTxn, hn]
  simp [storeRun, hf, hr, one]

/-- The end of a session queues nothing beside what waited. -/
theorem freshRecs_endSession {s u : State} (r : Route) (h : u.flash = s.flash) : freshRecs s (endSession u r) = [] := by
  simp only [freshRecs, waitedBefore, List.filter_eq_nil_iff]
  intro x hx
  have := mem_endSession u r x hx
  rw [h] at this
  simpa [or_iff_not_imp_left] using this

/-- 0x01 to `AuthLogout` ends the route's session. -/
theorem perform_authLogout {s : State} {r : Route} {f : Frame} (hi : f.index.toNat = 0x101B) (hs : f.sub.toNat = 0) (hd : f.data = [1]) :
    perform s r .write false f = (reply f stOk (bytesOf 4 0), 0, deferWork s (endSession s r)) := by
  obtain ⟨d, hk, hc⟩ := writeCheck_authLogout s r
  have ends (t : State) : carryOut t r d (0x101B * 256 + 0) [1] = (stOk, endSession t r) := by simp [carryOut, hk, action, done]
  have run : storeRun s (fun t => carryOut t r d (0x101B * 256 + 0) [1]) = (stOk, [], 0, endSession s r) :=
    storeRun_of_noWork (ends s) (freshRecs_endSession r rfl) (by rw [ends]; exact freshRecs_endSession r rfl)
  refine perform_actsAtOnce (d := d) (by rw [hi]; rfl) (by rw [hi, hs, hd, hc]) ?_
  unfold writeNow
  rw [hi, hs, hd, if_neg (by decide), if_neg (by simp [grantFree, actsAtOnce]), run]
  rfl

/-- A session's end queues no work that a freeze could put off (R244): a freeze of another route finds none, its own ends. -/
theorem deferWork_endSession (s : State) (r : Route) : deferWork s (endSession s r) = endSession s r := by
  by_cases h : s.front.freezeBy = some r ∧ obj s Obj.ArbiterFreeze ≠ 0
  · have zero : obj (endSession s r) Obj.ArbiterFreeze = 0 := by
      rw [endSession_eq_of_freeze h.1 h.2]
      exact (endFreeze_effect _).1
    rw [deferWork, if_pos zero]
  · rw [endSession_eq_of_not (by tauto)]
    exact deferWork_of_same rfl rfl

/-- AUTH_LOGOUT: the route's session ends, as the state stands when the frame has arrived. -/
theorem authLogout_effect {ks : List (Nat × Nat)} {ps : List Part} {s : State} {r : Route} (ha : hostAnswers s r = true)
    (ho : ∀ a : State, a.front = s.front → (∀ k, obj a k = obj s k) → Only ks ps a (endSession a r))
    (hps : ∀ p ∈ [Part.ports, .clk, .radio], p ∈ ps) (hl : Part.lm ∉ ps) :
    ∃ a t : State, a.front = s.front ∧ (∀ k, obj a k = obj s k) ∧ exec (.authLogout r) s = .next t ∧ answered t r = some stOk ∧
      t.ports.seqs = s.ports.seqs ∧ Ended r t ∧ Only [] [.ports, .clk, .radio] (endSession a r) t ∧ Only ks ps s t := by
  obtain ⟨t, ht, out, sess, seqs, touched, only⟩ := hostAccess_effect (key := Obj.AuthLogout) (data := [1]) (ks := ks) (ps := ps) ha (by decide)
    (by decide) (by decide) rfl (perform_authLogout rfl rfl rfl) (by rw [deferWork_endSession]; exact ho _ (by simp) (by simp)) hps hl
  rw [deferWork_endSession] at sess seqs touched
  refine ⟨_, t, by simp, by simp, ht, by rw [answered, out]; rfl, ?_, ?_, touched, only⟩
  · rw [seqs, endSession_ports]
    exact arrived_seqs s r _ (by simp [hostFrame])
  · unfold Ended
    rw [sess]
    exact ended_endSession _ r

end Sys2Proof.Machine
end

section
/-! The port side under the operations of the tally engine, the store, the measure domains and the radio that a stop or a start of the core goes through:
none of them touches it. A port reset ends its route's session and no other. -/

namespace Sys2Proof.Machine

/-! ### The port side under shared operations -/

@[simp] theorem raiseAt_ports (s : State) (code time : Nat) (p : List Nat) : (raiseAt s code time p).ports = s.ports :=
  (only_raiseAt s code time p).part .ports (by decide)
@[simp] theorem raise_ports (s : State) (code : Nat) (p : List Nat) : (raise s code p).ports = s.ports := raiseAt_ports s code _ p
@[simp] theorem journal_ports (s : State) (l : List (Nat × Nat)) : (journal s l).2.ports = s.ports :=
  (only_journal [] (ps := [.flash, .clk]) s l (by decide) (by decide)).part .ports (by decide)
@[simp] theorem setMany_ports (s : State) (l : List (Nat × Nat)) : (setMany s l).ports = s.ports := by
  obtain ⟨m, h⟩ := setMany_eq l s
  rw [h]
@[simp] theorem commitObjs_ports (s : State) (l : List (Nat × Nat)) : (commitObjs s l).2.ports = s.ports := by simp [commitObjs]
@[simp] theorem applyPend_ports (s : State) (b : Block) : (applyPend s b).ports = s.ports := by simp [applyPend]

/-- A fold of operations that leave the port side alone. -/
theorem foldl_ports {α : Type} (f : State → α → State) (hf : ∀ s a, (f s a).ports = s.ports) (l : List α) (s : State) :
    (l.foldl f s).ports = s.ports := by
  induction l generalizing s with
  | nil => rfl
  | cons a t ih => exact (ih (f s a)).trans (hf s a)

/-! ### The store (chapter 06) -/

theorem takeSpace_ports {s t : State} {us : List Nat} {w u : Nat} (h : takeSpace s us w = some (t, u)) : t.ports = s.ports := by
  unfold takeSpace at h
  split at h
  · cases h
  · cases h
    refine Eq.trans (setUnit_ports _ _ _) (foldl_ports _ (fun a v => ?_) us s)
    simp [apply_ite State.ports]

theorem programRec_ports {s t : State} {r : Rec} (h : programRec s r = some t) : t.ports = s.ports := by
  simp only [programRec, Option.map_eq_some_iff] at h
  obtain ⟨⟨v, u⟩, hv, rfl⟩ := h
  exact (setUnit_ports _ _ _).trans (takeSpace_ports hv)

@[simp] theorem finishBreak_ports (s : State) : (finishBreak s).ports = s.ports := by simp [finishBreak]

@[simp] theorem madeDurable_ports (s : State) (r : Rec) : (madeDurable s r).ports = s.ports := by
  simp [madeDurable, apply_ite State.ports]

@[simp] theorem queueErase_ports (s : State) (u : Nat) : (queueErase s u).ports = s.ports := by simp [queueErase, apply_ite State.ports]

@[simp] theorem discardUnit_ports (s : State) (u : Nat) : (discardUnit s u).ports = s.ports := by simp [discardUnit]

theorem ringAppend_ports {s t : State} {lo hi w u : Nat} (h : ringAppend s lo hi w = some (t, u)) : t.ports = s.ports := by
  simp only [ringAppend, Option.map_eq_some_iff] at h
  obtain ⟨⟨v, x⟩, hv, hx⟩ := h
  have hp := takeSpace_ports hv
  dsimp only at hx
  split at hx
  · cases hx; exact hp
  · split at hx <;> cases hx <;> simp [hp]

@[simp] theorem tableNote_ports (s : State) : (tableNote s).ports = s.ports := by
  unfold tableNote
  split
  · exact ringAppend_ports ‹_›
  · rfl

@[simp] theorem obsoleteCovered_ports (s : State) (txn : Nat) : (obsoleteCovered s txn).ports = s.ports :=
  foldl_ports _ (fun a u => by simp [apply_ite State.ports]) _ s

@[simp] theorem completeHome_ports (s : State) (txn : Nat) : (completeHome s txn).ports = s.ports := by
  unfold completeHome
  cases (otherHome s).head? <;> simp [apply_ite State.ports]

@[simp] theorem afterRecord_ports (s : State) (r : Rec) : (afterRecord s r).ports = s.ports := by
  unfold afterRecord
  split <;> simp

@[simp] theorem settleWriter_ports (s : State) : (settleWriter s).ports = s.ports := by
  unfold settleWriter
  dsimp only
  split
  · split
    · have hp := programRec_ports ‹_›
      split <;> simp [hp]
    · rfl
  · rfl
  · rfl

@[simp] theorem cutWriter_ports (s : State) : (cutWriter s).ports = s.ports := rfl

@[simp] theorem writeDusk_ports (s : State) (d : DuskRec) : (writeDusk s d).ports = s.ports := by
  unfold writeDusk
  dsimp only
  split <;> simp

@[simp] theorem eraseDone_ports (s : State) (u : Nat) : (eraseDone s u).ports = s.ports := rfl

@[simp] theorem eraseNow_ports (s : State) (u : Nat) : (eraseNow s u).ports = s.ports := by
  have recorded (t : Option State) (ht : ∀ w, t = some w → w.ports = s.ports) (r : Rec) :
      (match t with | some w => tableNote (madeDurable w r) | none => s).ports = s.ports := by
    cases t with
    | none => rfl
    | some w => simpa using ht w rfl
  exact (eraseDone_ports _ u).trans (recorded _ (fun w hw => (programRec_ports hw).trans (takeTxn_ports s)) _)

@[simp] theorem freeDusk_ports (s : State) : (freeDusk s).ports = s.ports := by
  unfold freeDusk
  split
  · rfl
  · simp [apply_ite State.ports]

/-! ### A stop of the core -/

@[simp] theorem abandonCycle_ports (s : State) : (abandonCycle s).ports = s.ports := by
  have h (t : State) (a : Option Nat) (b : Nat) : (unmeasured t a b).ports = t.ports := by
    unfold unmeasured
    split
    · rfl
    · simp [apply_ite State.ports]
  simp [abandonCycle, dropTimer, h, apply_ite State.ports]

@[simp] theorem countNoLine_ports (s : State) (again : Bool) : (countNoLine s again).ports = s.ports := by
  unfold countNoLine
  split <;> simp

@[simp] theorem stopMaster_ports (s : State) : (stopMaster s).ports = s.ports := by simp [stopMaster, apply_ite State.ports]

@[simp] theorem haltCore_ports (s : State) : (haltCore s).ports = s.ports := by simp [haltCore, stopRadio]

/-- The core's end ends every session (R88, R146). -/
theorem ended_endCore (s : State) (r : Route) : Ended r (endCore s) := by
  have h (m : NMap Session) (k : Nat) : mfind (m.map fun e => (e.1, { e.2 with level := 0, challenge := none })) k =
      (mfind m k).map fun x => { x with level := 0, challenge := none } := by
    induction m with
    | nil => rfl
    | cons e t ih =>
      obtain ⟨i, v⟩ := e
      by_cases hi : i = k
      · simp [mfind, hi]
      · simpa [mfind, hi] using ih
  have get : session (endCore s) r = ((mfind s.ports.sessions r.num).map fun x => { x with level := 0, challenge := none }).getD (Session.fresh 0) := by
    rw [← h]
    rfl
  unfold Ended
  rw [get]
  cases mfind s.ports.sessions r.num <;> exact ⟨rfl, rfl⟩

/-- Whether a session has ended is the port side's to say. -/
theorem ended_congr {s t : State} {r : Route} (h : t.ports.sessions = s.ports.sessions) : Ended r t ↔ Ended r s := by
  unfold Ended session
  rw [h]

theorem ended_loseCore (s : State) (m : Mode) (r : Route) : Ended r (loseCore s m) :=
  (ended_congr rfl).mpr (ended_endCore (haltCore s) r)

/-! ### A port reset -/

/-- Another route's session stays as it is. -/
theorem session_endSession_of_ne (s : State) {r q : Route} (h : q ≠ r) : session (endSession s r) q = session s q := by
  have hp := session_setSession_of_ne s (endedSession s r) (fun e => h (Route.num_inj e))
  unfold session at hp ⊢
  rw [endSession_ports]
  exact hp

/-- Of the sessions a port reset ends its route's, and no other (R27, R146). -/
theorem resetRoute_sessions (s : State) (r : Route) : (resetRoute s r).ports.sessions = (endSession (dropTags s r) r).ports.sessions := by
  unfold resetRoute
  dsimp only
  split
  · rfl
  · simp

/-- The sessions a port reset leaves. -/
theorem resetPort_sessions (s : State) (p : Port) :
    (resetPort s p).ports.sessions = (endSession (dropTags (startCclk s) p.route) p.route).ports.sessions := by
  rw [← resetRoute_sessions]
  cases p <;> rfl

/-- A port reset ends its route's session. -/
theorem ended_resetPort (s : State) (p : Port) : Ended p.route (resetPort s p) :=
  (ended_congr (resetPort_sessions s p)).mpr (ended_endSession _ _)

/-- A session that has ended stays ended when a port is reset, its own or another. -/
theorem ended_resetPort_of (s : State) (p : Port) {r : Route} (h : Ended r s) : Ended r (resetPort s p) := by
  by_cases hr : r = p.route
  · exact hr ▸ ended_resetPort s p
  · refine (ended_congr (resetPort_sessions s p)).mpr ?_
    unfold Ended
    rw [session_endSession_of_ne _ hr]
    simpa [Ended, session, dropTags] using h

end Sys2Proof.Machine
end

section
/-! The sessions across a start of the core (Table 03.8): no start moves them but for the slave engine's port reset that the Lysef master brings (R21), so
a session that has ended stays ended. -/

namespace Sys2Proof.Machine

/-! ### Replay (R219 to R224) -/

@[simp] theorem markFaults_sessions (s : State) (f : FlashFaults) : (markFaults s f).ports.sessions = s.ports.sessions := by
  have half (l : List Nat) (t : State) : (l.foldl (fun a u => setUnit a u { unit a u with half := true }) t).ports = t.ports :=
    foldl_ports _ (by intros; rfl) l t
  have stamps (l : List Nat) (t : State) : (l.foldl restamp t).ports = t.ports := foldl_ports _ (by intros; rfl) l t
  simp [markFaults, half, stamps]

@[simp] theorem latchBoundary_ports (s : State) (l : Latch) : (latchBoundary s l).ports = s.ports := by simp [latchBoundary, apply_ite State.ports]

@[simp] theorem applyRec_ports (s : State) (r : Rec) : (applyRec s r).ports = s.ports := by
  have regs (l : NMap Nat) (t : State) : (l.foldl (fun a e => setObj a (regKey e.1) e.2) t).ports = t.ports := foldl_ports _ (by intros; rfl) l t
  unfold applyRec
  split <;> simp [regs]

@[simp] theorem replayTxn_ports (f : FlashFaults) (recs : List Rec) (s : State) (n : Nat) : (replayTxn f recs s n).ports = s.ports := by
  simp [replayTxn, apply_ite State.ports, foldl_ports applyRec applyRec_ports]

@[simp] theorem applyDusk_ports (s : State) (d : DuskRec) : (applyDusk s d).ports = s.ports := by
  have regs (l : NMap Nat) (t : State) : (l.foldl (fun a e => setObj a (regKey e.1) e.2) t).ports = t.ports := foldl_ports _ (by intros; rfl) l t
  simp [applyDusk, regs]

@[simp] theorem replayDusk_ports (s : State) : (replayDusk s).ports = s.ports := by
  have numbered (t : State) (n : Nat) (ht : t.ports = s.ports) :
      (if txnAfter n (obj t Obj.LastCommittedTxn) then setObj t Obj.LastCommittedTxn n else t).ports = s.ports := by
    split
    · rw [setObj_ports, ht]
    · exact ht
  unfold replayDusk
  cases s.flash.dusk with
  | none => rfl
  | some d => exact numbered _ d.txn (ite_both (P := fun t => t.ports = s.ports) (applyDusk_ports s d) rfl)

@[simp] theorem reEraseAll_ports (s : State) : (reEraseAll s).ports = s.ports := by
  unfold reEraseAll
  exact foldl_ports _ (fun t u => by simp [reErase]) _ s

@[simp] theorem replay_sessions (s : State) (f : FlashFaults) (retained vbat : Bool) : (replay s f retained vbat).ports.sessions = s.ports.sessions := by
  simp [replay, logCounts, pendingLogs, apply_ite State.ports, foldl_ports _ (replayTxn_ports f _)]

/-! ### Steps of a start -/

@[simp] theorem keepGlade_ports (was : State) (chip : Bool) (s : State) : (keepGlade was chip s).ports = s.ports := by
  simp [keepGlade, apply_ite State.ports]

@[simp] theorem restoreTime_ports (s : State) : (restoreTime s).ports = s.ports := by simp [restoreTime, apply_ite State.ports]

@[simp] theorem restoreKept_ports (s : State) : (restoreKept s).ports = s.ports := rfl

@[simp] theorem pathFactors_ports (s : State) : (pathFactors s).ports = s.ports := by
  unfold pathFactors
  exact foldl_ports _ (by intros; rfl) _ s

@[simp] theorem endCollect_ports (s : State) (reason : Nat) : (endCollect s reason).ports = s.ports := by
  simp [endCollect, refuseService, setService, apply_ite State.ports]

@[simp] theorem startGlade_ports (s : State) : (startGlade s).ports = s.ports := by simp [startGlade, apply_ite State.ports]

@[simp] theorem raiseHeldAlarms_ports (s : State) : (raiseHeldAlarms s).ports = s.ports := by
  unfold raiseHeldAlarms
  exact foldl_ports _ (fun t a => by simp [fireAlarm, apply_ite State.ports]) _ s

@[simp] theorem startCore_sessions (s : State) (f : FlashFaults) (vbat chip : Bool) : (startCore s f vbat chip).ports.sessions = s.ports.sessions := by
  simp [startCore, apply_ite State.ports]

@[simp] theorem voltageEvent_ports (s : State) (x : Excursion) (n e : Nat) : (voltageEvent s x n e).ports = s.ports := by
  unfold voltageEvent
  dsimp only
  rw [raiseAt_ports]
  dsimp only
  rw [setObj_ports, bump_ports]

@[simp] theorem compareDusk_ports (s : State) (off : Nat) : (compareDusk s off).ports = s.ports := by
  unfold compareDusk
  cases s.flash.dusk with
  | none => simp [apply_ite State.ports]
  | some d =>
    dsimp only
    cases d.excursion <;> simp [apply_ite State.ports]

@[simp] theorem acquire_ports (s : State) (p : Nat) : (acquire s p).ports = s.ports := rfl

@[simp] theorem startLoops_ports (s : State) : (startLoops s).ports = s.ports := by
  unfold startLoops
  dsimp only
  rw [foldl_ports acquire acquire_ports]
  split <;> rfl

@[simp] theorem loseLink_ports (s : State) (p cause : Nat) : (loseLink s p cause).ports = s.ports := by
  unfold loseLink
  cases nbr s p <;> simp [sendFailed, groveResult, linkState, countStems, setNbr, apply_ite State.ports]

@[simp] theorem loseAll_ports (s : State) (cause : Nat) : (loseAll s cause).ports = s.ports := by
  unfold loseAll
  exact foldl_ports _ (fun t e => loseLink_ports t _ cause) _ s

@[simp] theorem startOut_ports (s : State) (o : Nat) : (startOut s o).ports = s.ports := by
  simp [startOut, driveOut, setOut, apply_ite State.ports]

/-! ### Boundaries that wait for the start (R473) -/

@[simp] theorem moveAccs_ports (s : State) : (moveAccs s).ports = s.ports := by
  unfold moveAccs
  exact foldl_ports _ (by intros; rfl) _ s

@[simp] theorem addTariffs_ports (s : State) (before : NMap Nat) : (addTariffs s before).ports = s.ports := by
  unfold addTariffs
  refine foldl_ports _ (fun t e => ?_) _ s
  dsimp only
  split
  · rw [setObj_ports]
  · rfl

@[simp] theorem oweOut_ports (before : NMap Nat) (s : State) (o : Nat) : (oweOut before s o).ports = s.ports := by
  unfold oweOut
  split
  · rfl
  · dsimp only
    rw [startOut_ports]
    split
    · rw [raise_ports]
      dsimp only
      rw [setObj_ports]
    · dsimp only
      rw [setObj_ports]

@[simp] theorem copAtLatch_ports (s : State) : (copAtLatch s).ports = s.ports := by simp [copAtLatch, objBit, apply_ite State.ports]

@[simp] theorem takeLatch_ports (s : State) (tr : Trigger) : (takeLatch s tr).ports = s.ports := by
  simp [takeLatch, fifoLatch, pendLogs, evalTariffs, apply_ite State.ports]

@[simp] theorem latch_ports (s : State) (tr : Trigger) : (latch s tr).ports = s.ports := by
  unfold latch
  split
  · exact takeLatch_ports s tr
  · split <;> simp

@[simp] theorem deferredBoundaries_ports (s : State) : (deferredBoundaries s).ports = s.ports := by
  have records (l : List (Nat × Nat)) (t : State) : (recordBoundaries t l).ports = t.ports := foldl_ports _ (by intros; rfl) l t
  simp [deferredBoundaries, initBoundaries, boundariesSkipped, records, apply_ite State.ports]

/-! ### The first conversion (R387) -/

@[simp] theorem applyTemps_ports (s : State) : (applyTemps s).ports = s.ports := by
  unfold applyTemps
  split
  · rfl
  · exact (foldl_ports _ (fun t x => by dsimp only; split_ifs <;> rfl) _ _).trans (applyPend_ports s _)

@[simp] theorem applySensors_ports (s : State) : (applySensors s).ports = s.ports := by
  unfold applySensors
  cases s.temp.sensorPend <;> simp [invalidatePort, serviceCommit]

@[simp] theorem standbyRole_ports (counts : Bool) (s : State) (role : Nat) : (standbyRole counts s role).ports = s.ports := by
  unfold standbyRole
  split <;> simp [releaseStandby, journalKept, apply_ite State.ports]

@[simp] theorem requestTimer_ports (s : State) (q : TimerReq) : (requestTimer s q).ports = s.ports := by
  simp [requestTimer, apply_ite State.ports]

@[simp] theorem startConversion_ports (s : State) : (startConversion s).ports = s.ports := by
  unfold startConversion
  dsimp only
  split_ifs
  · rfl
  · simp [requestTimer_ports]

/-! ### The start as a whole -/

/-- The Lysef master's start resets the Lysef port alone (R21). -/
theorem ended_startMaster {s : State} {r : Route} (h : Ended r s) : Ended r (startMaster s) := by
  have ports (t : State) : (searchDue t true).ports = t.ports := by
    simp [searchDue, beginSearch, masterBreak, apply_ite State.ports]
  unfold startMaster
  split
  · exact (ended_congr (by rw [ports])).mpr (ended_resetPort_of s .lysef h)
  · exact h

/-- Steps 4 and 5 (Table 03.8): but for the Lysef master's start no session moves. -/
theorem ended_startFull {s : State} {r : Route} (gladeLost : Bool) (h : Ended r s) : Ended r (startFull s gladeLost) := by
  have outs (t : State) : ([1, 2, 3].foldl startOut t).ports = t.ports := foldl_ports _ startOut_ports _ t
  have prepared {t : State} (ht : t.ports = s.ports) :
      Ended r (startMaster (deferredBoundaries ([1, 2, 3].foldl startOut t))) :=
    ended_startMaster ((ended_congr (by rw [deferredBoundaries_ports, outs, ht])).mpr h)
  have first {t : State} (ht : Ended r t) (x : Temp) : Ended r (startConversion { t with temp := x }) :=
    (ended_congr (congrArg Ports.sessions (startConversion_ports _))).mpr ((ended_congr rfl).mpr ht)
  unfold startFull
  refine first (prepared ?_) _
  simp [setCharger, jumpCounters, apply_ite State.ports]

/-- With VBAT the core goes on in full mode or in transport mode (Table 03.8). -/
theorem ended_openCore {s : State} {r : Route} (off : Nat) (gladeLost : Bool) (h : Ended r s) : Ended r (openCore s off gladeLost) := by
  have compared : Ended r (compareDusk s off) := (ended_congr (by simp)).mpr h
  unfold openCore
  refine (ended_congr (congrArg Ports.sessions (freeDusk_ports _))).mpr ?_
  exact ite_both (P := Ended r) ((ended_congr rfl).mpr compared) (ended_startFull gladeLost compared)

/-- The end of a chip reset gives no session back (R48, R146). -/
theorem ended_releaseReset {s : State} {r : Route} (testHigh : Bool) (faults : FlashFaults) (h : Ended r s) : Ended r (releaseReset testHigh faults s) := by
  have powered (m : Power) : Ended r { s with pw := m } := (ended_congr rfl).mpr h
  have started (m : Power) (vbat : Bool) : Ended r (startCore { s with pw := m } faults vbat true) := (ended_congr (by simp)).mpr (powered m)
  have told (t : State) (ht : Ended r t) : Ended r (if testHigh then raise t 0x1030 else t) :=
    ite_both (P := Ended r) ((ended_congr (by simp)).mpr ht) ht
  unfold releaseReset
  split
  · exact powered _
  · split
    · exact powered _
    · exact ite_both (P := Ended r) (ended_openCore _ _ (told _ (started _ _))) (told _ (started _ _))

end Sys2Proof.Machine
end

section
/-! What ends a session (R146), and the statement O18. -/

namespace Sys2Proof.Machine

/-! ### AUTH_LOGOUT -/

/-- Without a freeze of its route a logout touches the session alone. -/
theorem authLogout_of_noFreeze {s : State} {r : Route} (ha : hostAnswers s r = true) (h : s.front.freezeBy ≠ some r) :
    Runs (.authLogout r) s fun t => answered t r = some stOk ∧ t.ports.seqs = s.ports.seqs ∧ Ended r t ∧ Only [] [.ports, .clk, .radio] s t := by
  obtain ⟨-, t, -, -, ht, ok, seqs, ended, -, only⟩ := authLogout_effect (ks := []) (ps := [.ports, .clk, .radio]) ha
    (fun a hf _ => by
      rw [endSession_eq_of_not (.inr (by rwa [hf]))]
      exact only_setSession _ _ _ _ (by decide)) (by decide) (by decide)
  exact ⟨t, ht, ok, seqs, ended, only⟩

/-- With one, a logout ends it (R246). -/
theorem authLogout_of_freeze {s : State} {r : Route} (ha : hostAnswers s r = true) (hb : s.front.freezeBy = some r)
    (hf : obj s Obj.ArbiterFreeze ≠ 0) :
    Runs (.authLogout r) s fun t => answered t r = some stOk ∧ obj t Obj.ArbiterFreeze = 0 ∧ t.front.freezeBy = none ∧
      Only freezeKeys [.ports, .front, .clk, .flash, .tally, .radio] s t := by
  obtain ⟨a, t, front, objs, ht, ok, -, -, touched, only⟩ := authLogout_effect ha (fun a _ _ => only_endSession a r) (by decide) (by decide)
  rw [endSession_eq_of_freeze (by rwa [front]) (by rwa [objs])] at touched
  obtain ⟨thawed, free, -⟩ := endFreeze_effect (setSession a r (endedSession a r))
  refine ⟨t, ht, ok, (touched.2.2.1 _ rfl).trans thawed, ?_, only⟩
  rw [touched.part .front (by decide)]
  exact free

/-- Whatever the arbiter's freeze, a logout ends the session and leaves the open sequences (R239). -/
theorem authLogout_ends {s : State} {r : Route} (ha : hostAnswers s r = true) :
    Runs (.authLogout r) s fun t => answered t r = some stOk ∧ t.ports.seqs = s.ports.seqs ∧ Ended r t := by
  obtain ⟨-, t, -, -, ht, ok, seqs, ended, -⟩ := authLogout_effect ha (fun a _ _ => only_endSession a r) (by decide) (by decide)
  exact ⟨t, ht, ok, seqs, ended⟩

/-! ### The idle limit and a lockout's end -/

/-- SESSION_IDLE_EXPIRY ends a session in use whose idle count has reached the limit. -/
theorem exec_sessionIdleExpiry {s : State} {r : Route} (hu : 0 < (session s r).level ∨ (session s r).challenge ≠ none)
    (ht : obj s Obj.SessionIdleLimit * 32768 ≤ ticks s - (session s r).lastTick) : exec (.sessionIdleExpiry r) s = .next (endSession s r) := by
  have used : (decide (0 < (session s r).level) || (session s r).challenge.isSome) = true := by
    simpa [Option.isSome_iff_ne_none] using hu
  show execSessionIdleExpiry r s = _
  simp [execSessionIdleExpiry, when, used, ht]

/-- Before the limit, or on a session not in use, it changes nothing. -/
theorem exec_sessionIdleExpiry_early {s : State} {r : Route}
    (h : ticks s - (session s r).lastTick < obj s Obj.SessionIdleLimit * 32768 ∨ (session s r).level = 0 ∧ (session s r).challenge = none) :
    exec (.sessionIdleExpiry r) s = .next s := by
  show execSessionIdleExpiry r s = _
  unfold execSessionIdleExpiry when
  dsimp only
  rcases h with h | ⟨hl, hc⟩
  · rw [if_neg (by omega : ¬obj s Obj.SessionIdleLimit * 32768 ≤ ticks s - (session s r).lastTick), ite_self]
  · simp [hl, hc]

/-- AUTH_LOCKOUT_END lets the route's responses be checked again once the time has passed (R147). -/
theorem exec_authLockoutEnd {s : State} {r : Route} (hl : (session s r).locked = true)
    (ht : (((session s r).fails.getLast?.map (·.2)).getD 0) + obj s Obj.AuthLockoutTime * 32768 ≤ ticks s) :
    exec (.authLockoutEnd r) s = .next (setSession s r { session s r with locked := false, fails := [] }) := by
  show execAuthLockoutEnd r s = _
  unfold execAuthLockoutEnd when
  dsimp only
  rw [if_pos (by rw [hl, Bool.true_and, decide_eq_true_eq]; exact ht)]

/-- Before that time, or without a lockout, it changes nothing. -/
theorem exec_authLockoutEnd_early {s : State} {r : Route} (h : (session s r).locked = false ∨
      ticks s < (((session s r).fails.getLast?.map (·.2)).getD 0) + obj s Obj.AuthLockoutTime * 32768) : exec (.authLockoutEnd r) s = .next s := by
  show execAuthLockoutEnd r s = _
  unfold execAuthLockoutEnd when
  dsimp only
  rw [if_neg]
  rw [Bool.and_eq_true, decide_eq_true_eq]
  rintro ⟨hl, ht⟩
  rcases h with h | h
  · rw [hl] at h
    cases h
  · exact absurd ht (by omega)

/-! ### Port resets, resets and stops of the core -/

/-- A port reset ends its route's session, whatever the captured requests have done before (R123). -/
theorem ended_portReset (s : State) (p : Port) : Ended p.route (portReset s p) := ended_resetPort _ p

/-- A loss of VIO resets the SPI port (R59). -/
theorem ended_vioDown (s : State) : Ended .spi (vioDown s) := by
  have h := ended_portReset s .spi
  unfold vioDown
  generalize portReset s .spi = t at h ⊢
  exact (ended_congr rfl).mpr h

/-- A break resets the Lysef port (R498). -/
theorem ended_breakLine (s : State) : Ended .lysef (breakLine s) := by
  have h := ended_portReset s .lysef
  unfold breakLine
  generalize portReset s .lysef = t at h ⊢
  exact (ended_congr rfl).mpr h

/-- The field's loss: the port reset has ended the session, and where the core stops with it every session ends. -/
theorem ended_fieldDown (s : State) : Ended .vicinity (fieldDown s) := by
  have h := ended_portReset (cutWrites s) .vicinity
  have halted (t : State) (m : Power) : Ended .vicinity { endCore (haltCore t) with pw := m } := (ended_congr rfl).mpr (ended_endCore (haltCore t) _)
  unfold fieldDown readoutEnds
  generalize portReset (cutWrites s) .vicinity = t at h ⊢
  exact ite_both (P := Ended .vicinity) (ite_both (P := Ended .vicinity) (halted _ _) (ended_loseCore _ _ _)) ((ended_congr rfl).mpr h)

/-- PORT_RESET with the causes of R146 that are each port's own. -/
theorem portReset_ends (s : State) :
    (s.ports.vioOk = true → portsDead s = false → Runs (.portReset .spi .midFrame) s (Ended .spi)) ∧
    (s.ports.vioOk = true → Runs (.portReset .spi .vioLoss) s (Ended .spi)) ∧
    (s.pw.bus = true → s.lm.running = false → Runs (.portReset .lysef .lineBreak) s (Ended .lysef)) ∧
    (s.pw.field = true → Runs (.portReset .vicinity .fieldLoss) s (Ended .vicinity)) :=
  ⟨fun hv hd => ⟨_, congrArg Host.Outcome.next (if_pos (by rw [hv, hd]; rfl)), ended_portReset s .spi⟩,
   fun hv => ⟨_, congrArg Host.Outcome.next (if_pos hv), ended_vioDown s⟩,
   fun hb hm => ⟨_, congrArg Host.Outcome.next (if_pos (by rw [hb, hm]; rfl)), ended_breakLine s⟩,
   fun hf => ⟨_, congrArg Host.Outcome.next (if_pos hf), ended_fieldDown s⟩⟩

/-- CHIP_RESET ends every session with the core (R48). -/
theorem chipReset_ends {s : State} (q : Route) (hv : s.ports.vioOk = true) (ho : s.pw.mode ≠ .off) (hc : s.pw.mode ≠ .chipReset) :
    Runs .chipReset s (Ended q) := by
  have powered : (s.ports.vioOk && decide (s.pw.mode ≠ .off) && decide (s.pw.mode ≠ .chipReset)) = true := by simp [hv, ho, hc]
  show ∃ t, execChipReset s = .next t ∧ Ended q t
  unfold execChipReset
  refine ⟨_, congrArg Host.Outcome.next (if_pos powered), ?_⟩
  dsimp only
  generalize haltCore (endCollect ([Port.spi, .lysef, .vicinity].foldl resetPort s) 6) = t
  exact (ended_congr rfl).mpr (ended_endCore t q)

/-- DUSK_SAVE ends every session (R88). -/
theorem duskSave_ends {s : State} (q : Route) (vbk : Bool) (l : List ElecSample) (hb : s.pw.vbat = true) (hc : coreUp s = true) :
    Runs (.duskSave vbk l) s (Ended q) := by
  have up : (s.pw.vbat && coreUp s) = true := by rw [hb, hc]; rfl
  have saved (t : State) (k v : Nat) (d : DuskRec) : Ended q (writeDusk (setObj (bump (haltCore (settleWriter (endCore t))) Obj.DuskCount) k v) d) :=
    (ended_congr (by rw [writeDusk_ports, setObj_ports, bump_ports, haltCore_ports, settleWriter_ports])).mpr (ended_endCore t q)
  have held {w : State} (h : Ended q w) (m : Power) : Ended q { w with pw := m } := (ended_congr rfl).mpr h
  show ∃ t, execDuskSave vbk l s = .next t ∧ Ended q t
  unfold execDuskSave
  exact ⟨_, congrArg Host.Outcome.next (if_pos up), held (saved _ _ _ _) _⟩

/-- VIO_LOSS: the SPI port's reset ends its session, also where nRST, reading high from now on, ends a chip reset (R59). -/
theorem vioLoss_ends {s : State} (th : Bool) (faults : FlashFaults) (hv : s.ports.vioOk = true) : Runs (.vioLoss th faults) s (Ended .spi) := by
  show ∃ t, execVioLoss s th faults = .next t ∧ Ended .spi t
  unfold execVioLoss
  refine ⟨_, congrArg Host.Outcome.next (if_pos hv), ?_⟩
  have h := ended_vioDown s
  exact ite_both (P := Ended .spi) (ended_releaseReset th faults h) h

/-- Settles O18: every clause is one end of a session; what R146 says of sequences and a freeze comes from `endSession`, and no start gives a session back. -/
theorem sessionsEnd : Obligations.SessionsEnd := by
  unfold Obligations.SessionsEnd
  intro s r q vbk l th faults
  obtain ⟨midFrame, vioOut, lineBreak, fieldLoss⟩ := portReset_ends s
  refine ⟨fun ha => ?_, fun ha hb hf => authLogout_of_freeze ha hb hf, fun hu ht => ?_, exec_sessionIdleExpiry_early, fun hl ht => ?_,
    exec_authLockoutEnd_early, midFrame, lineBreak, fieldLoss, chipReset_ends q, duskSave_ends q vbk l, vioOut, fun hv _ => vioLoss_ends th faults hv⟩
  · by_cases hb : s.front.freezeBy = some r
    · obtain ⟨t, ht, ok, seqs, level, challenge⟩ := authLogout_ends ha
      exact ⟨t, ht, ok, level, challenge, seqs, fun hn => absurd hb hn⟩
    · obtain ⟨t, ht, ok, seqs, ⟨level, challenge⟩, only⟩ := authLogout_of_noFreeze ha hb
      exact ⟨t, ht, ok, level, challenge, seqs, fun _ => only⟩
  · obtain ⟨level, challenge⟩ := ended_endSession s r
    refine ⟨_, exec_sessionIdleExpiry hu ht, level, challenge, by rw [endSession_ports]; rfl, by rw [endSession_ports]; rfl, fun hn => ?_,
      fun hf hb => ?_⟩
    · rw [endSession_eq_of_not hn]
      exact only_setSession _ _ _ _ (by decide)
    · rw [endSession_eq_of_freeze hb hf]
      exact (endFreeze_effect _).1
  · refine ⟨_, exec_authLockoutEnd hl ht, ?_, ?_, ?_, only_setSession _ _ _ _ (by decide)⟩ <;> rw [session_setSession_self]

end Sys2Proof.Machine
end

section
/-! The Lysef slave's frames: what reaches the engine (`heardSync`), what a command frame does (`slaveCmd`), and the search frame. -/

namespace Sys2Proof.Machine

/-! ### A frame's sync cell -/

/-- The slave when a frame's sync cell has reloaded the tracker and shown its rate (R499, R501). -/
def heardSync (s : State) (c : LyCell) : State :=
  setObj { s with ly := { s.ly with cell := c.space + c.mark } } Obj.LysefCellRateSeen ((roundDiv 1000000000 (c.space + c.mark : Nat)).toNat % 65536)

/-- A frame reaches the running engine as the bits behind its sync cell. -/
theorem slaveFrame_of_slaveUp {s : State} (hu : slaveUp s = true) (c : LyCell) (rest : List LyCell) (f : State → List Bool → Res) :
    slaveFrame s (c :: rest) f = f (heardSync s c) (lyBits (c :: rest)) := by
  simp only [slaveFrame, hu, Bool.not_true, Bool.false_eq_true, ↓reduceIte]
  rfl

/-- A sync cell shows its rate, and else only the slave's own part moves. -/
theorem only_heardSync (s : State) (c : LyCell) : Only rateKeys [.ly] s (heardSync s c) :=
  (only_ly _ s _ List.mem_cons_self).trans (only_setObj _ _ _ (by decide))

theorem obj_heardSync_of_ne (s : State) (c : LyCell) {k : Nat} (h : k ≠ Obj.LysefCellRateSeen) : obj (heardSync s c) k = obj s k :=
  (obj_setObj_of_ne _ _ h).trans (obj_congr rfl rfl k)

@[simp] theorem heardSync_answered (s : State) (c : LyCell) : (heardSync s c).ly.answered = s.ly.answered := rfl
@[simp] theorem heardSync_steady (s : State) (c : LyCell) : (heardSync s c).ly.steady = s.ly.steady := rfl

@[simp] theorem slaveAddress_heardSync (s : State) (c : LyCell) : slaveAddress (heardSync s c) = slaveAddress s :=
  congrArg s.ly.address.getD (obj_heardSync_of_ne s c (by decide))

/-! ### A command frame -/

/-- The state enters the judgement of a header by the slave's address alone. -/
theorem lyHeader_congr {s t : State} (h : slaveAddress t = slaveAddress s) (b : List Byte) (cmd : Nat) (short : Bool) :
    lyHeader t b cmd short = lyHeader s b cmd short := by
  unfold lyHeader
  rw [h]

@[simp] theorem cmdIntact_heardSync (s : State) (c : LyCell) (b : List Byte) (cmd n : Nat) :
    cmdIntact (heardSync s c) b cmd n = cmdIntact s b cmd n := by
  unfold cmdIntact
  rw [lyHeader_congr (slaveAddress_heardSync s c)]

/-- An intact command is carried out. -/
theorem slaveCmd_of_intact {s : State} {b : List Byte} {cmd n : Nat} (h : cmdIntact s b cmd n = true) (f : State → State) :
    slaveCmd s b cmd n f = .next (f s) := by
  simp only [cmdIntact, Bool.and_eq_true, decide_eq_true_eq] at h
  obtain ⟨⟨mine, long⟩, crc⟩ := h
  have whole : ¬(b.length < n + 5 ∨ crc16 (b.take (n + 3)) ≠ natOf ((b.drop (n + 3)).take 2)) := fun bad => bad.elim (by omega) (absurd crc)
  unfold slaveCmd
  rw [mine]
  exact if_neg whole

/-- One that is not intact is ignored, as another device's is, or counted as an error (R502, R503). -/
theorem slaveCmd_of_not_intact {s : State} {b : List Byte} {cmd n : Nat} (h : cmdIntact s b cmd n = false) (f : State → State) :
    slaveCmd s b cmd n f = .next s ∨ slaveCmd s b cmd n f = .next (bump s Obj.LysefFrameErrors) := by
  unfold slaveCmd
  cases hh : lyHeader s b cmd false with
  | silent => exact .inl rfl
  | wrong => exact .inr rfl
  | mine =>
    refine .inr (if_pos ?_)
    by_contra whole
    obtain ⟨long, crc⟩ := not_or.mp whole
    simp [cmdIntact, hh, Nat.not_lt.mp long, not_not.mp crc] at h

/-! ### The search frame -/

/-- A device that takes no part answers no cell, whatever the master chooses. -/
theorem searchAnswers_of_no_part (key k : Nat) (cells : List Bool) :
    (searchAnswers key k false cells).all (fun e => !e.1 && !e.2) = true := by
  induction k generalizing cells with
  | zero => rfl
  | succ j ih =>
    match cells with
    | _ :: _ :: w :: rest => exact ih rest
    | [] | [_] | [_, _] => rfl

/-- Does the device take part in a search of a mode (R506): the bus steady since before the break, and in mode 0x01 the device new? -/
def takesPart (s : State) (mode : Nat) : Bool := s.ly.steady && (decide (mode = 0) || decide (obj s Obj.LysefNew = 1))

@[simp] theorem takesPart_heardSync (s : State) (c : LyCell) (mode : Nat) : takesPart (heardSync s c) mode = takesPart s mode := by
  simp only [takesPart, heardSync_steady, obj_heardSync_of_ne s c (show Obj.LysefNew ≠ Obj.LysefCellRateSeen by decide)]

/-- What an intact SEARCH_START with the bits l behind its sync cell does (R505): an unknown mode is an error, else the device's answers. -/
def searchTurn (l : List Bool) (s : State) : State :=
  let b := bytesOfBits (l.take 112)
  if 1 < lyField b 0 1 then bump s Obj.LysefFrameErrors
  else { s with ly := { s.ly with
    answered := searchAnswers (Nat.xor (obj s Obj.DeviceIdentity) (lyField b 1 8)) 64 (takesPart s (lyField b 0 1)) (l.drop 112) } }

/-- SEARCH_START at the running engine is a command frame whose turn is `searchTurn`. -/
theorem exec_searchStart {s : State} {c : LyCell} {rest a h x y k z : List LyCell} (hu : slaveUp s = true) (hc : a ++ h ++ x ++ y ++ k ++ z = c :: rest) :
    exec (.searchStart a h x y k z) s = slaveCmd (heardSync s c) (searchBytes (c :: rest)) 0x10 9 (searchTurn (lyBits (c :: rest))) := by
  show execSearchStart a h x y k z s = _
  unfold execSearchStart
  rw [hc, slaveFrame_of_slaveUp hu]
  rfl

/-- What a search frame may move in a device that answers none of its cells. -/
abbrev searchErrorKeys : List (Nat × Nat) := (Obj.LysefFrameErrors, Obj.LysefFrameErrors) :: rateKeys

/-- A search's turn counts an unknown mode, and else only the slave's own part moves. -/
theorem only_searchTurn (l : List Bool) (s : State) : Only searchErrorKeys [.ly] s (searchTurn l s) :=
  ite_both (P := Only _ _ s) (only_bump _ s (by decide)) (only_ly _ s _ List.mem_cons_self)

/-- A device that takes no part keeps its answers where the mode is unknown, and else answers no cell. -/
theorem searchTurn_answered_of_no_part {l : List Bool} {s : State} (h : takesPart s (lyField (bytesOfBits (l.take 112)) 0 1) = false) :
    (searchTurn l s).ly.answered = s.ly.answered ∨ (searchTurn l s).ly.answered.all (fun e => !e.1 && !e.2) = true := by
  unfold searchTurn
  dsimp only
  rw [h]
  split
  · exact .inl rfl
  · exact .inr (searchAnswers_of_no_part _ _ _)

section
variable {s : State} {c : LyCell} {rest a h x y k z : List LyCell} (hu : slaveUp s = true) (hc : a ++ h ++ x ++ y ++ k ++ z = c :: rest)
include hu hc

/-- A SEARCH_START that is not intact leaves the answers, and may count an error. -/
theorem searchStart_of_not_intact (hi : cmdIntact s (searchBytes (c :: rest)) 0x10 9 = false) :
    Runs (.searchStart a h x y k z) s fun t => t.ly.answered = s.ly.answered ∧ Only searchErrorKeys [.ly] s t := by
  have heard : Only searchErrorKeys [.ly] s (heardSync s c) := (only_heardSync s c).cons_keys _
  rw [Runs, exec_searchStart hu hc]
  rcases slaveCmd_of_not_intact ((cmdIntact_heardSync s c _ _ _).trans hi) (searchTurn (lyBits (c :: rest))) with e | e
  · exact ⟨_, e, rfl, heard⟩
  · exact ⟨_, e, rfl, heard.trans (only_bump _ _ (by decide))⟩

/-- A device that takes no part in the search answers no cell of the frame. -/
theorem searchStart_of_no_part (hp : takesPart s (lyField (searchBytes (c :: rest)) 0 1) = false) :
    Runs (.searchStart a h x y k z) s fun t =>
      (t.ly.answered = s.ly.answered ∨ t.ly.answered.all (fun e => !e.1 && !e.2) = true) ∧ Only searchErrorKeys [.ly] s t := by
  cases hi : cmdIntact s (searchBytes (c :: rest)) 0x10 9 with
  | false =>
    obtain ⟨t, ht, kept, only⟩ := searchStart_of_not_intact hu hc hi
    exact ⟨t, ht, .inl kept, only⟩
  | true =>
    refine ⟨searchTurn (lyBits (c :: rest)) (heardSync s c), ?_, ?_, ((only_heardSync s c).cons_keys _).trans (only_searchTurn _ _)⟩
    · rw [exec_searchStart hu hc, slaveCmd_of_intact ((cmdIntact_heardSync s c _ _ _).trans hi)]
    · exact searchTurn_answered_of_no_part ((takesPart_heardSync s c _).trans hp)

end

/-- Settles O48: a frame that is not intact changes no answer, and each other clause is a way not to take part. -/
theorem lysefSearchParticipation : Obligations.LysefSearchParticipation := by
  unfold Obligations.LysefSearchParticipation
  intro s c rest a h x y k z hu hc
  refine ⟨searchStart_of_not_intact hu hc, fun unsteady => searchStart_of_no_part hu hc ?_, fun mode old => searchStart_of_no_part hu hc ?_⟩
  · simp [takesPart, unsteady]
  · simp [takesPart, mode, old]

end Sys2Proof.Machine
end

section
/-! The vicinity port's UID (R543, R545): a READ served at once with a store grant, the bytes of the UID, and the statement O53. -/

namespace Sys2Proof.Machine

/-! ### A request served with a store grant at its response point (R226, R230) -/

@[simp] theorem arrived_pendBlocks (s : State) (r : Route) (f : Frame) : (arrived s r f).pendBlocks = s.pendBlocks :=
  ((only_arrived s r f).part .pend (by decide)).2

/-- The arrival sequence moves the store front alone (R226). -/
theorem only_advanceSeq (ks : List (Nat × Nat)) {ps : List Part} (s : State) (hm : Part.front ∈ ps) : Only ks ps s (advanceSeq s) :=
  only_front ks s _ hm

/-- A request that takes a grant, does not wait its turn and succeeds without a transaction is stamped and answered at once (R226, R230). -/
theorem serve_granted {s u : State} {r : Route} {op : Op} {f : Frame} {x : Resp} (htag : mfind s.ports.tags (tagSlot r f.tag.toNat) = none)
    (hmay : mayTakeTag s r.requester = true) (hfac : f.index.toNat < 0xF000) (hn : needsGrant op f = true) (hw : mustWait s op f = false)
    (hx : perform s r op false f = (x, 0, u)) (hst : x.status = stOk) : serve s r op f false = .next (putOut (advanceSeq u) r x) := by
  have nofac : factoryAccess s r op f = false := by simp [factoryAccess, hfac]
  have nohold : macHolds r op f x = false := by simp [macHolds, hst, stOk, stFrozen]
  have answer : answerRequest s r op f = putOut (advanceSeq u) r x := by
    unfold answerRequest
    simp [hx, nohold, hst, hn, phaseOf]
  unfold serve
  simp [htag, hmay, nofac, hw, answer, ok]

/-- On an open route no request waits its turn (R230, R240, R254). -/
theorem mustWait_of_routeOpen {s : State} {r : Route} (h : routeOpen s r = true) (op : Op) (f : Frame) : mustWait (arrived s r f) op f = false := by
  simp only [routeOpen, Bool.and_eq_true, Bool.not_eq_true'] at h
  obtain ⟨⟨⟨⟨-, nopend⟩, noxfer⟩, nowait⟩, -⟩ := h
  have pend : pendingOf (arrived s r f) .arbiter = false := by simpa [pendingOf] using nopend
  simp [mustWait, pend, nowait, Option.isNone_iff_eq_none.mp noxfer]

/-- Such a request on a route: what it leaves, stamped and with its response shown, goes out. -/
theorem frameIn_granted {s u : State} {r : Route} {op : Op} {f : Frame} {x : Resp} (ha : frameOk s r op f = true) (hfac : f.index.toNat < 0xF000)
    (hn : needsGrant op f = true) (hx : perform (arrived s r f) r op false f = (x, 0, u)) (hst : x.status = stOk) (hm : u.lm = s.lm) :
    frameIn s r op f false = .next (sent r op f (putOut (advanceSeq u) r x)) := by
  simp only [frameOk, Bool.and_eq_true, Option.isNone_iff_eq_none] at ha
  obtain ⟨⟨⟨⟨route, buffer⟩, tag⟩, crc⟩, form⟩ := ha
  have wait := mustWait_of_routeOpen route op f
  simp only [routeOpen, Bool.and_eq_true] at route
  obtain ⟨⟨⟨⟨⟨⟨⟨⟨port, store⟩, -⟩, -⟩, -⟩, -⟩, -⟩, -⟩, may⟩ := route
  have core : op ≠ .status ∧ op ≠ .nop := by constructor <;> rintro rfl <;> cases hn
  refine frameIn_of_access port ((access_of_good store buffer crc form core).trans ?_) hm
  exact serve_granted (by simpa using tag) ((mayTakeTag_congr (by simp) (by simp) (by simp) (by simp) _).trans may) hfac hn wait hx hst

/-- A frame without LOCK, where the route holds no open sequence, passes check 6 (R171). -/
theorem lockCheck_of_noSeq {s : State} {r : Route} {f : Frame} (hl : f.flags.getLsbD 0 = false) (hq : seqOf s r = none) : lockCheck s r f = stOk := by
  unfold lockCheck
  rw [hl, hq]
  simp

/-- A READ outside a sequence and a freeze answers the first 240 bytes of a value that reading does not change (R160). -/
theorem perform_read {s : State} {r : Route} {f : Frame} {b : List Byte} (hl : f.flags.getLsbD 0 = false) (hq : seqOf s r = none)
    (hf : obj s Obj.ArbiterFreeze = 0) (hv : readValue s r false f.index.toNat f.sub.toNat = shows s b) :
    perform s r .read false f = (reply f stOk (b.take 240), 0, s) := by
  have done : performIn s r .read false f = (reply f stOk (b.take 240), 0, s) := by
    simp only [performIn, lockCheck_of_noSeq hl hq, readFrom, hl, hv, shows]
    simp [stOk, stFrame, heldBack, frozen, hf]
  unfold perform
  rw [done]
  simp only [deferWork_of_same, ite_self]

/-- A READ on a ready route that takes a grant: the value shown, and nothing moved but the port side, the store front, CCLK and the radio. -/
theorem read_effect {s : State} {r : Route} {f : Frame} {b : List Byte} (ha : frameReady s r .read f = true) (hfac : f.index.toNat < 0xF000)
    (hn : needsGrant .read f = true)
    (hv : readValue (arrived s r f) r false f.index.toNat f.sub.toNat = shows (arrived s r f) b) :
    Runs (.read r f false) s fun t =>
      mfind t.ports.out r.num = some (reply f stOk (b.take 240)) ∧ Only [] [.ports, .front, .clk, .radio] s t := by
  simp only [frameReady, Bool.and_eq_true, decide_eq_true_eq, Option.isNone_iff_eq_none] at ha
  obtain ⟨⟨frame, flags⟩, noseq⟩ := ha
  have nolock : f.flags.getLsbD 0 = false := by simp [flags]
  have noseq' : seqOf (arrived s r f) r = none := by rw [← noseq]; unfold seqOf; rw [arrived_seqs s r f nolock]
  have nofreeze : obj s Obj.ArbiterFreeze = 0 := by
    simp only [frameOk, routeOpen, Bool.and_eq_true, decide_eq_true_eq] at frame
    obtain ⟨⟨⟨⟨⟨⟨⟨⟨⟨-, h⟩, -⟩, -⟩, -⟩, -⟩, -⟩, -⟩, -⟩, -⟩ := frame
    exact h
  have served : perform (arrived s r f) r .read false f = (reply f stOk (b.take 240), 0, arrived s r f) :=
    perform_read nolock noseq' (by simpa using nofreeze) hv
  refine ⟨_, frameIn_granted frame hfac hn served rfl (by simp), by simp, ?_⟩
  have stamped : Only [] [.ports, .front, .clk, .radio] s (advanceSeq (arrived s r f)) :=
    ((only_arrived s r f).widen (by decide)).trans (only_advanceSeq _ _ (by decide))
  exact (stamped.trans (only_putOut _ _ r _ (by decide))).trans ((only_sent r .read f _).widen (by decide))

/-! ### The bytes of the UID (R543) -/

/-- The bytes of a number are those of its high part, then those of its low part. -/
theorem bytesOf_add (m n v : Nat) : bytesOf (m + n) v = bytesOf m (v / 256 ^ n) ++ bytesOf n v := by
  induction m with
  | zero => simp [bytesOf]
  | succ k ih => rw [Nat.succ_add, bytesOf, bytesOf, ih, Nat.div_div_eq_div_mul, ← Nat.pow_add, Nat.add_comm n k, List.cons_append]

/-- n bytes show a number modulo 256^n. -/
theorem bytesOf_congr {n v w : Nat} (h : v % 256 ^ n = w % 256 ^ n) : bytesOf n v = bytesOf n w := by
  induction n with
  | zero => rfl
  | succ k ih =>
    have low : v % 256 ^ k = w % 256 ^ k := Nat.ModEq.of_dvd (Nat.pow_dvd_pow 256 k.le_succ) h
    have top : v / 256 ^ k % 256 = w / 256 ^ k % 256 := by
      rw [← Nat.mod_mul_right_div_self, ← Nat.mod_mul_right_div_self, ← Nat.pow_succ, h]
    rw [bytesOf, bytesOf, ih low, BitVec.eq_of_toNat_eq ((BitVec.toNat_ofNat _ 8).trans (top.trans (BitVec.toNat_ofNat _ 8).symm))]

/-- The UID, most significant byte first: 0xE0, `IcManufacturerCode`, bits [47:0] of `DeviceIdentity`. -/
theorem bytesOf_vicinityUid {s : State} (h : obj s Obj.IcManufacturerCode < 256) :
    bytesOf 8 (vicinityUid s) = [0xE0] ++ bytesOf 1 (obj s Obj.IcManufacturerCode) ++ bytesOf 6 (obj s Obj.DeviceIdentity) := by
  have top : vicinityUid s / 256 ^ 6 / 256 ^ 1 = 0xE0 := by unfold vicinityUid; omega
  have mid : vicinityUid s / 256 ^ 6 % 256 ^ 1 = obj s Obj.IcManufacturerCode % 256 ^ 1 := by unfold vicinityUid; omega
  have low : vicinityUid s % 256 ^ 6 = obj s Obj.DeviceIdentity % 256 ^ 6 := by unfold vicinityUid; omega
  rw [bytesOf_add 2 6, bytesOf_add 1 1, top, bytesOf_congr mid, bytesOf_congr low]
  rfl

/-- The UID on the air is least significant byte first. -/
theorem uidOnAir_eq {s : State} (h : obj s Obj.IcManufacturerCode < 256) :
    uidOnAir s = (bytesOf 6 (obj s Obj.DeviceIdentity)).reverse ++ bytesOf 1 (obj s Obj.IcManufacturerCode) ++ [0xE0] := by
  rw [uidOnAir, bytesOf_vicinityUid h, List.reverse_append, List.reverse_append, List.append_assoc]
  rfl

theorem lookup_vicinityUid (c : OrderCode) : lookup c 0x5111 0 = .obj ⟨0x5111, 0, 0, 8, false, .r, false, 0, .any, none, .all, [0], []⟩ := by
  cases c <;> decide +kernel

/-- A READ of `VicinityUid` outside a sequence gives the UID's eight bytes. -/
theorem readValue_vicinityUid (s : State) (r : Route) : readValue s r false 0x5111 0 = shows s (bytesOf 8 (vicinityUid s)) := by
  simp [readValue, lookup_vicinityUid, shownValue, readObj, shows, showsN]

/-! ### Requests to the vicinity port (R551) -/

/-- The port's response bytes are on the port side. -/
theorem only_vicAnswer (ks : List (Nat × Nat)) {ps : List Part} (s : State) (b : List Byte) (hm : Part.ports ∈ ps) : Only ks ps s (vicAnswer b s) :=
  only_ports ks s _ hm

/-- Where the vicinity port answers, a request acts on the state with its last response gone. -/
theorem vicRequest_of_vicUp {s : State} (h : vicUp s = true) (f : State → State) : vicRequest s f = .next (f (vicAnswer [] s)) := by
  simp [vicRequest, when, h]

/-- GET_SYSTEM_INFORMATION to a device it addresses (R545). -/
theorem exec_getSystemInformation {s : State} {m : VicMode} (hu : vicUp s = true) (ha : vicAddressed s m = true) :
    exec (.getSystemInformation m) s =
      .next (vicAnswer ([0x00, 0x08] ++ uidOnAir s ++ bytesOf 1 (obj s Obj.SiliconRevision)) (vicAnswer [] s)) := by
  have addressed : vicAddressed (vicAnswer [] s) m = true := ha
  show vicRequest s _ = _
  rw [vicRequest_of_vicUp hu, if_pos addressed]
  rfl

/-- Settles O53: the READ is served with a grant at once, and both answers carry the bytes of the one UID. -/
theorem vicinityUidForm : Obligations.VicinityUidForm := by
  unfold Obligations.VicinityUidForm
  intro s r f m hm
  refine ⟨fun ready key => ?_, fun up addressed => ?_⟩
  · have split : f.index.toNat * 256 + f.sub.toNat = 0x511100 := key
    have small := f.sub.isLt
    have index : f.index.toNat = 0x5111 := by omega
    have sub : f.sub.toNat = 0 := by omega
    have value := readValue_vicinityUid (arrived s r f) r
    have bytes := bytesOf_vicinityUid (s := arrived s r f) (by simpa using hm)
    rw [bytes, obj_arrived, obj_arrived] at value
    rw [← index, ← sub] at value
    exact read_effect ready (by omega) (by simp [needsGrant, grantFree, actsAtOnce, index]) value
  · refine ⟨_, exec_getSystemInformation up addressed, ?_, (only_vicAnswer _ s _ (by decide)).trans (only_vicAnswer _ _ _ (by decide))⟩
    show [0x08] ++ uidOnAir s ++ bytesOf 1 (obj s Obj.SiliconRevision) = _
    rw [uidOnAir_eq hm]
    simp only [List.append_assoc]

end Sys2Proof.Machine
end
